-- ==== Sys2Proof/Word.lean ====
section
/-! DEFINITION. The data types the engine is described with: bytes, line levels, line modes, lines.
Rule R7 of spec/00_scope.md (values are unsigned, levels 0 and 1), rule R14 of spec/10_state.md (lines). -/

namespace Sys2Proof

/-- A byte: 8 bits, bit 0 the least significant (R7). -/
abbrev Byte := BitVec 8

/-- A command word of format `CMD24` (R60). -/
abbrev Word24 := BitVec 24

/-- What a host register read returns: wide enough for the widest register, `TICK` (R10). -/
abbrev Word32 := BitVec 32

/-- The level of a line: Low is 0, High is 1 (R7, D26). -/
inductive Level where
  | low
  | high
  deriving DecidableEq, Repr, Inhabited

/-- The two modes of a "SensorLine" (R14). -/
inductive Mode where
  | input
  | output
  deriving DecidableEq, Repr, Inhabited

/-- The four lines of the engine (R14). -/
inductive Line where
  | sw
  | clk
  | dat
  | ce
  deriving DecidableEq, Repr, Inhabited

/-- The two bidirectional lines, the only ones that change mode or are sampled (R14, R90, R93). -/
inductive BiLine where
  | sw
  | dat
  deriving DecidableEq, Repr, Inhabited

/-- A bidirectional line, as one of the four. -/
def BiLine.line : BiLine → Line
  | .sw => .sw
  | .dat => .dat

/-- The eight fields of the clock chip's register space, in the order of rule R43's table. The seventh,
`f7`, is the one the spec calls "the unnamed seventh seed field". -/
inductive ClockField where
  | sec
  | min
  | hour
  | date
  | month
  | f7
  | year
  | wp
  deriving DecidableEq, Repr, Inhabited

/-- The six fields `RTC.GETTIME` reads into `TIME_SEC` .. `TIME_YEAR` (R13, R150). -/
inductive TimeField where
  | sec
  | min
  | hour
  | date
  | month
  | year
  deriving DecidableEq, Repr, Inhabited

/-- The five bytes of the single-wire frame, by index (R11, R64). -/
inductive FrameIx where
  | b0
  | b1
  | b2
  | b3
  | b4
  deriving DecidableEq, Repr, Inhabited

end Sys2Proof
end

