-- ==== Sys2Proof/Config.lean ====
section
/-! DEFINITION. The implementation parameters of rule R6 (spec/00_scope.md) as one record, and the free
values. A literal of the source is the DEFAULT of its parameter; an OPEN parameter is an opaque constant
without a body, so that nothing proved can rest on a value of it (Log 4, Log 5). -/

namespace Sys2Proof

/-- The parameter record of rule R6. Every meaning takes it as an argument (D7). `T_POLL` and `F_CLK` are
not in it: R6 says the first is "not modelled as a number" and that no rule depends on the second. -/
structure Params where
  /-- `T_RESET_LOW_MS`, milliseconds. -/
  tResetLowMs : Nat := 18
  /-- `T_START_HIGH_US`, microseconds. -/
  tStartHighUs : Nat := 20
  /-- `T_RESP_WAIT_US`. -/
  tRespWaitUs : Nat := 40
  /-- `T_RESP_HIGH_US`. -/
  tRespHighUs : Nat := 80
  /-- `T_BIT_SAMPLE_US`. -/
  tBitSampleUs : Nat := 40
  /-- `T_CLK_PHASE_US`, a lower bound. -/
  tClkPhaseUs : Nat := 1
  /-- `FRAME_BYTES`: byte reads of one single-wire frame. -/
  frameBytes : Nat := 5
  /-- `BYTE_BITS`: bits per byte on both protocols. -/
  byteBits : Nat := 8
  /-- `TICK_BITS`: width of the tick counter (D19). -/
  tickBits : Nat := 32
  /-- `N_RESP`, OPEN. -/
  nResp : Nat
  /-- `N_BIT_START`, OPEN. -/
  nBitStart : Nat
  /-- `N_BIT_END`, OPEN. -/
  nBitEnd : Nat
  /-- `SEED_ENABLE`, OPEN. -/
  seedEnable : Bool
  /-- `SEED[0]`, written to 0x80, OPEN. -/
  seed0 : Byte
  /-- `SEED[1]`, written to 0x82, OPEN. -/
  seed1 : Byte
  /-- `SEED[2]`, written to 0x84, OPEN. -/
  seed2 : Byte
  /-- `SEED[3]`, written to 0x86, OPEN. -/
  seed3 : Byte
  /-- `SEED[4]`, written to 0x88, OPEN. -/
  seed4 : Byte
  /-- `SEED[5]`, written to 0x8A, OPEN. -/
  seed5 : Byte
  /-- `SEED[6]`, written to 0x8C, OPEN. -/
  seed6 : Byte
  /-- `PRES_TIMEOUT` (R73). -/
  presTimeout : Byte := 0x00
  /-- `PRES_NONE` (R73, D9). -/
  presNone : Byte := 0x00
  /-- `PRES_OK` (R73, D9). -/
  presOk : Byte := 0x01
  /-- `PRES_ERR` (R73, D9). -/
  presErr : Byte := 0xFF
  /-- `WP_UNLOCK` (R72). -/
  wpUnlock : Byte := 0x00
  /-- `WP_LOCK` (R72). -/
  wpLock : Byte := 0x80
  deriving DecidableEq, Repr

/-- OPEN: one less than `N_RESP`, so that the budget is at least 1 (R6). -/
opaque Config.openNResp : Nat

/-- OPEN: one less than `N_BIT_START` (R6). -/
opaque Config.openNBitStart : Nat

/-- OPEN: one less than `N_BIT_END` (R6). -/
opaque Config.openNBitEnd : Nat

/-- OPEN: `SEED_ENABLE` (R6, R149). -/
opaque Config.openSeedEnable : Bool

/-- OPEN: `SEED[k]` for `k` in 0..6 (R6, R149). -/
opaque Config.openSeed : Nat → Byte

/-- FREE: the level an unscripted sample reads, afresh at every draw (R93, U2). -/
opaque Config.freeLevel : Nat → Level

/-- FREE: by how much a delay overshoots, microseconds (R94, D22, U6). -/
opaque Config.freeExcess : Nat → Nat

/-- FREE: microseconds that pass before a host read of `TICK`, or while the engine is idle (R19, U8). -/
opaque Config.freeElapsed : Nat → Nat

/-- FREE: what a host reads from a result register the running command writes (R249, U4). -/
opaque Config.freeByte : Nat → Byte

/-- The machine's parameters: the source's literals for the defaults, an opaque constant for each OPEN one. -/
def Config.params : Params where
  nResp := Config.openNResp + 1
  nBitStart := Config.openNBitStart + 1
  nBitEnd := Config.openNBitEnd + 1
  seedEnable := Config.openSeedEnable
  seed0 := Config.openSeed 0
  seed1 := Config.openSeed 1
  seed2 := Config.openSeed 2
  seed3 := Config.openSeed 3
  seed4 := Config.openSeed 4
  seed5 := Config.openSeed 5
  seed6 := Config.openSeed 6

end Sys2Proof
end

