-- ==== Sys2Proof/Syntax.lean ====
section
/-! DEFINITION. The instructions: one constructor per row of spec/opcode_table.json (R61, R70), the words
they are encoded in, and the pseudo-commands of rule R76 (spec/30_encoding.md). -/

namespace Sys2Proof

/-- One constructor per row of the opcode table. The first six are the host's commands (format `CMD24`,
R61); the others are the sixteen address bytes of the three-wire bus (format `RTCADDR8`, R70), each
standing for the one register transaction it opens. A write address is followed on the wire by the data
byte `v` (R68). -/
inductive Instr where
  /-- `SW.READ` (R117) -/
  | swRead
  /-- `RTC.WRREG a, b` (R147) -/
  | rtcWrreg (a b : Byte)
  /-- `RTC.RDREG a` (R148) -/
  | rtcRdreg (a : Byte)
  /-- `RTC.INIT` (R149) -/
  | rtcInit
  /-- `RTC.GETTIME` (R150) -/
  | rtcGettime
  /-- `BCD.DEC b` (R173) -/
  | bcdDec (b : Byte)
  /-- `A_SEC_W` 0x80 -/
  | aSecW (v : Byte)
  /-- `A_SEC_R` 0x81 -/
  | aSecR
  /-- `A_MIN_W` 0x82 -/
  | aMinW (v : Byte)
  /-- `A_MIN_R` 0x83 -/
  | aMinR
  /-- `A_HOUR_W` 0x84 -/
  | aHourW (v : Byte)
  /-- `A_HOUR_R` 0x85 -/
  | aHourR
  /-- `A_DATE_W` 0x86 -/
  | aDateW (v : Byte)
  /-- `A_DATE_R` 0x87 -/
  | aDateR
  /-- `A_MONTH_W` 0x88 -/
  | aMonthW (v : Byte)
  /-- `A_MONTH_R` 0x89 -/
  | aMonthR
  /-- `A_F7_W` 0x8A -/
  | aF7W (v : Byte)
  /-- `A_F7_R` 0x8B -/
  | aF7R
  /-- `A_YEAR_W` 0x8C -/
  | aYearW (v : Byte)
  /-- `A_YEAR_R` 0x8D -/
  | aYearR
  /-- `A_WP_W` 0x8E -/
  | aWpW (v : Byte)
  /-- `A_WP_R` 0x8F -/
  | aWpR
  deriving DecidableEq, Repr

/-- What the decoder is given: a 24-bit command word (R60), or the bytes that open a transaction on the
three wires, the address byte and the data byte after it (R68). -/
inductive Code where
  | cmd (w : Word24)
  | bus (address data : Byte)
  deriving DecidableEq, Repr

/-- The pseudo-commands of rule R76, "each an exact expansion". -/
inductive Pseudo where
  /-- `RTC.UNLOCK` -/
  | unlock
  /-- `RTC.LOCK` -/
  | lock
  /-- `RTC.RD.<field>` -/
  | rd (f : TimeField)
  /-- `RTC.WR.<field> b` -/
  | wr (f : TimeField) (b : Byte)
  deriving DecidableEq, Repr

end Sys2Proof
end

