-- ==== Sys2Proof/WellFormed.lean ====
section
/-! DEFINITION. What is well formed. No operand value of an instruction is illegal (R63: "any `a` and any `b`
are accepted and used"), so every instruction is; the checks with something to refuse are those on a code
word as an assembler writes it (R61, R75) and on a parameter record (R6). -/

namespace Sys2Proof

/-- Every instruction with byte operands is well formed (R63). -/
def Instr.wf : Instr → Bool
  | .swRead => true
  | .rtcWrreg _ _ => true
  | .rtcRdreg _ => true
  | .rtcInit => true
  | .rtcGettime => true
  | .bcdDec _ => true
  | .aSecW _ => true
  | .aSecR => true
  | .aMinW _ => true
  | .aMinR => true
  | .aHourW _ => true
  | .aHourR => true
  | .aDateW _ => true
  | .aDateR => true
  | .aMonthW _ => true
  | .aMonthR => true
  | .aF7W _ => true
  | .aF7R => true
  | .aYearW _ => true
  | .aYearR => true
  | .aWpW _ => true
  | .aWpR => true

/-- The opcodes of rule R61 that use neither operand field. -/
def Code.opNoOperand (op : Byte) : Bool := op == 0x01 || op == 0x12 || op == 0x13

/-- A code word as an assembler writes it: a defined opcode with every ignored field 0 (R61, R75), or an
address byte of rule R70 whose data byte is 0 when it is a read address (the host sends no data byte, R68). -/
def Code.wf : Code → Bool
  | .cmd w =>
    let op := w.extractLsb' 16 8
    let a := w.extractLsb' 8 8
    let b := w.extractLsb' 0 8
    (Code.opNoOperand op && a == 0 && b == 0) || op == 0x10 || (op == 0x11 && b == 0)
      || (op == 0x20 && a == 0)
  | .bus a d => a.extractLsb' 4 4 == 8#4 && (!a.getLsbD 0 || d == 0)

/-- The budgets are at least 1 (R6); a frame fits the five frame registers (R11), a byte its register (R10), the
tick its host register (R10); and the response codes tell ok, error and the shared zero code apart
(R73: the timeout code is "distinct from Presence's ok/error codes"). -/
def Params.wf (p : Params) : Bool :=
  decide (1 ≤ p.nResp) && decide (1 ≤ p.nBitStart) && decide (1 ≤ p.nBitEnd)
    && decide (1 ≤ p.frameBytes ∧ p.frameBytes ≤ 5) && decide (1 ≤ p.byteBits ∧ p.byteBits ≤ 8)
    && decide (1 ≤ p.tickBits ∧ p.tickBits ≤ 32)
    && p.presTimeout != p.presOk && p.presTimeout != p.presErr && p.presOk != p.presErr

end Sys2Proof
end

