-- ==== Sys2Proof/Decode.lean ====
section
/-! DEFINITION. Decoding and encoding: rules R60 to R63, R68 to R70, R75 and R76 of spec/30_encoding.md. Total
on every word; what is no instruction is rejected by name. -/

namespace Sys2Proof

/-- Why a code word is no instruction. -/
inductive DecodeError where
  /-- an `op` value that rule R61 does not list (R63) -/
  | undefinedOpcode (op : Byte)
  /-- an address byte outside the sixteen of rule R70 -/
  | unnamedAddress (a : Byte)
  deriving DecidableEq, Repr

/-- Bits 23:16 of a command word (R60). -/
def opField (w : Word24) : Byte := w.extractLsb' 16 8

/-- Bits 15:8: first operand (R60). -/
def aField (w : Word24) : Byte := w.extractLsb' 8 8

/-- Bits 7:0: second operand (R60). -/
def bField (w : Word24) : Byte := w.extractLsb' 0 8

/-- A row of the command table: its opcode, and the instruction its two operand bytes make. -/
structure CmdRow where
  op : Byte
  build : Byte → Byte → Instr

/-- Rule R61's table, row by row. A row that lists a field as ignored drops it. -/
def cmdRows : List CmdRow :=
  [ ⟨0x01, fun _ _ => .swRead⟩,
    ⟨0x10, fun a b => .rtcWrreg a b⟩,
    ⟨0x11, fun a _ => .rtcRdreg a⟩,
    ⟨0x12, fun _ _ => .rtcInit⟩,
    ⟨0x13, fun _ _ => .rtcGettime⟩,
    ⟨0x20, fun _ b => .bcdDec b⟩ ]

/-- A row of the address table: its byte, and the instruction the data byte makes. -/
structure AddrRow where
  address : Byte
  build : Byte → Instr

/-- Rule R70's table, row by row. A read address has no data byte of the host's. -/
def addrRows : List AddrRow :=
  [ ⟨0x80, fun v => .aSecW v⟩, ⟨0x81, fun _ => .aSecR⟩,
    ⟨0x82, fun v => .aMinW v⟩, ⟨0x83, fun _ => .aMinR⟩,
    ⟨0x84, fun v => .aHourW v⟩, ⟨0x85, fun _ => .aHourR⟩,
    ⟨0x86, fun v => .aDateW v⟩, ⟨0x87, fun _ => .aDateR⟩,
    ⟨0x88, fun v => .aMonthW v⟩, ⟨0x89, fun _ => .aMonthR⟩,
    ⟨0x8A, fun v => .aF7W v⟩, ⟨0x8B, fun _ => .aF7R⟩,
    ⟨0x8C, fun v => .aYearW v⟩, ⟨0x8D, fun _ => .aYearR⟩,
    ⟨0x8E, fun v => .aWpW v⟩, ⟨0x8F, fun _ => .aWpR⟩ ]

/-- Decode a command word: the decoder looks at `op` only (R61); an unlisted `op` is illegal (R63). -/
def decodeCmd (w : Word24) : Except DecodeError Instr :=
  match cmdRows.find? (fun r => r.op == opField w) with
  | some r => .ok (r.build (aField w) (bField w))
  | none => .error (.undefinedOpcode (opField w))

/-- Decode the opening of a transaction by its address byte (`mask = 0xFF`, R70). -/
def decodeBus (address data : Byte) : Except DecodeError Instr :=
  match addrRows.find? (fun r => r.address == address) with
  | some r => .ok (r.build data)
  | none => .error (.unnamedAddress address)

/-- The decoder, total on every code word. -/
def decode : Code → Except DecodeError Instr
  | .cmd w => decodeCmd w
  | .bus address data => decodeBus address data

/-- The command word `{op, a, b}` (R60). -/
def cmdWord (op a b : Byte) : Word24 := op ++ a ++ b

/-- The encoder: the 24-bit word of rule R60 with ignored fields 0 (R75), or the address byte of rule R70
with its data byte (R68). -/
def encode : Instr → Code
  | .swRead => .cmd (cmdWord 0x01 0 0)
  | .rtcWrreg a b => .cmd (cmdWord 0x10 a b)
  | .rtcRdreg a => .cmd (cmdWord 0x11 a 0)
  | .rtcInit => .cmd (cmdWord 0x12 0 0)
  | .rtcGettime => .cmd (cmdWord 0x13 0 0)
  | .bcdDec b => .cmd (cmdWord 0x20 0 b)
  | .aSecW v => .bus 0x80 v
  | .aSecR => .bus 0x81 0
  | .aMinW v => .bus 0x82 v
  | .aMinR => .bus 0x83 0
  | .aHourW v => .bus 0x84 v
  | .aHourR => .bus 0x85 0
  | .aDateW v => .bus 0x86 v
  | .aDateR => .bus 0x87 0
  | .aMonthW v => .bus 0x88 v
  | .aMonthR => .bus 0x89 0
  | .aF7W v => .bus 0x8A v
  | .aF7R => .bus 0x8B 0
  | .aYearW v => .bus 0x8C v
  | .aYearR => .bus 0x8D 0
  | .aWpW v => .bus 0x8E v
  | .aWpR => .bus 0x8F 0

/-- The code word of a table row's bits, numbered as spec/opcode_table.json numbers them: a row of 24 bits is
a command word; a row of 8 bits is an address byte, the data byte of a write following it in bits 15..8. -/
def tableCode (nbits w : Nat) : Code :=
  if nbits ≤ 16 then .bus (BitVec.ofNat 8 w) (BitVec.ofNat 8 (w / 256)) else .cmd (BitVec.ofNat 24 w)

/-- What the decoder reads from a table row's bits (none where it rejects them). -/
def decodeTableWord (nbits w : Nat) : Option Instr :=
  match decode (tableCode nbits w) with
  | .ok i => some i
  | .error _ => none

/-- The write address of a clock field (R43, R70). -/
def ClockField.writeAddr : ClockField → Byte
  | .sec => 0x80
  | .min => 0x82
  | .hour => 0x84
  | .date => 0x86
  | .month => 0x88
  | .f7 => 0x8A
  | .year => 0x8C
  | .wp => 0x8E

/-- The read address of a clock field: `write_address | 1` (R62, R69). -/
def ClockField.readAddr (f : ClockField) : Byte := f.writeAddr ||| 1

/-- The six time fields among the eight (R43). -/
def TimeField.clockField : TimeField → ClockField
  | .sec => .sec
  | .min => .min
  | .hour => .hour
  | .date => .date
  | .month => .month
  | .year => .year

/-- The expansion of a pseudo-command (R76). -/
def Pseudo.expand : Pseudo → Instr
  | .unlock => .rtcWrreg 0x8E 0x00
  | .lock => .rtcWrreg 0x8E 0x80
  | .rd f => .rtcRdreg f.clockField.readAddr
  | .wr f b => .rtcWrreg f.clockField.writeAddr b

/-- The mnemonic of an instruction, as the opcode table spells it (R61, R70, R75). -/
def Instr.mnemonic : Instr → String
  | .swRead => "SW.READ"
  | .rtcWrreg _ _ => "RTC.WRREG"
  | .rtcRdreg _ => "RTC.RDREG"
  | .rtcInit => "RTC.INIT"
  | .rtcGettime => "RTC.GETTIME"
  | .bcdDec _ => "BCD.DEC"
  | .aSecW _ => "A_SEC_W"
  | .aSecR => "A_SEC_R"
  | .aMinW _ => "A_MIN_W"
  | .aMinR => "A_MIN_R"
  | .aHourW _ => "A_HOUR_W"
  | .aHourR => "A_HOUR_R"
  | .aDateW _ => "A_DATE_W"
  | .aDateR => "A_DATE_R"
  | .aMonthW _ => "A_MONTH_W"
  | .aMonthR => "A_MONTH_R"
  | .aF7W _ => "A_F7_W"
  | .aF7R => "A_F7_R"
  | .aYearW _ => "A_YEAR_W"
  | .aYearR => "A_YEAR_R"
  | .aWpW _ => "A_WP_W"
  | .aWpR => "A_WP_R"

/-- The operands a line of assembly writes after the mnemonic, in order (R75). -/
def Instr.operands : Instr → List Byte
  | .rtcWrreg a b => [a, b]
  | .rtcRdreg a => [a]
  | .bcdDec b => [b]
  | .aSecW v => [v]
  | .aMinW v => [v]
  | .aHourW v => [v]
  | .aDateW v => [v]
  | .aMonthW v => [v]
  | .aF7W v => [v]
  | .aYearW v => [v]
  | .aWpW v => [v]
  | .swRead => []
  | .rtcInit => []
  | .rtcGettime => []
  | .aSecR => []
  | .aMinR => []
  | .aHourR => []
  | .aDateR => []
  | .aMonthR => []
  | .aF7R => []
  | .aYearR => []
  | .aWpR => []

/-- One hexadecimal digit. -/
def hexDigit (n : Nat) : String := String.singleton (Nat.digitChar n).toUpper

/-- A byte as the assembler writes it, for example 0x8E (R7, R75). -/
def hexByte (v : Byte) : String := "0x" ++ hexDigit (v.toNat / 16) ++ hexDigit (v.toNat % 16)

/-- One line of assembly: the mnemonic, then the used operands "as hexadecimal bytes separated by a comma"
(R75). -/
def Instr.asmLine (i : Instr) : String :=
  match i.operands with
  | [] => i.mnemonic
  | ops => i.mnemonic ++ " " ++ String.intercalate ", " (ops.map hexByte)

end Sys2Proof
end

