-- ==== Sys2Proof/Machine/State.lean ====
section
/-! DEFINITION. The state of the engine as plain data (spec/10_state.md): host-visible registers (R10 to R19),
lines (R14), sequencer (R21, R22), hidden state (R23), event trace (R30), reset values (R32); and the model's
own fields for the environment and the host. -/

namespace Sys2Proof.Machine

open Sys2Proof

/-- No constructor: the engine raises no exception and no state of it means "halted" or "faulted" (R200,
R216), so no step faults. -/
inductive Fault where
  deriving DecidableEq, Repr

/-- Why a step gives no meaning. -/
inductive Refusal where
  /-- An instruction whose arm of `exec` has no meaning yet. Safe. -/
  | notModelled (mnemonic : String)
  /-- Raised by the sequencer's checked `drive`: a drive on a line in Input mode, "undefined and must not be
  relied upon" (R98, U1). Safe; no reachable state raises it. -/
  | driveOnInputLine
  /-- Raised by the sequencer's checked `sample`: a sample of a line in Output mode (R98, U1). Safe; no reachable
  state raises it. -/
  | sampleOnOutputLine
  /-- Raised by the sequencer in a state that rule R22's table never enters, for example a transaction phase while
  `SEQ.cmd` is no clock command (Log 23). Safe; no reachable state raises it. -/
  | sequencerOffTable
  deriving DecidableEq, Repr

/-- An event of the trace (R30). -/
inductive Event where
  /-- `EvMode(l, m)` -/
  | mode (l : BiLine) (m : Mode)
  /-- `EvDrive(l, v)` -/
  | drive (l : Line) (v : Level)
  /-- `EvDelay(n)`, microseconds -/
  | delay (n : Nat)
  /-- `EvSample(l, v)` -/
  | sample (l : BiLine) (v : Level)
  deriving DecidableEq, Repr

/-- The three flags of `STATUS` (R17). -/
structure Flags where
  busy : Bool
  ckok : Bool
  ill : Bool
  deriving DecidableEq, Repr

/-- The byte registers x[2] to x[16] (R10). -/
structure Regs where
  pres : Byte
  frame0 : Byte
  frame1 : Byte
  frame2 : Byte
  frame3 : Byte
  frame4 : Byte
  hum : Byte
  temp : Byte
  timeSec : Byte
  timeMin : Byte
  timeHour : Byte
  timeDate : Byte
  timeMonth : Byte
  timeYear : Byte
  rdata : Byte
  deriving DecidableEq, Repr

/-- Modes of the two bidirectional lines and the four output latches (R14). `mode[CLK]` and `mode[CE]` are
Output for ever (R99): `modeOf` in Ops answers that, nothing stores it. -/
structure Pins where
  swMode : Mode
  datMode : Mode
  swLatch : Level
  datLatch : Level
  clkLatch : Level
  ceLatch : Level
  deriving DecidableEq, Repr

/-- Hidden state (R23): write shift register, read accumulator, byte being assembled. -/
structure Hidden where
  sh : Byte
  acc : Byte
  v : Byte
  deriving DecidableEq, Repr

/-- The micro-operations of `SW_START`, in order (R110). -/
inductive StartOp where
  | toOutput
  | driveLow
  | holdLow
  | driveHigh
  | holdHigh
  | release
  deriving DecidableEq, Repr

/-- The micro-operations of `SW_CHECK` (R111). -/
inductive CheckOp where
  | waitAnswer
  | firstSample
  | waitHigh
  | secondSample
  | guard
  deriving DecidableEq, Repr

/-- The micro-operations of `RTC_BEGIN`, in order (R143). -/
inductive BeginOp where
  | clockLow
  | enableHigh
  deriving DecidableEq, Repr

/-- The micro-operations of one iteration of a byte shifter, in order (R140 to R142): `turn` (the mode switch,
before the first bit only), `level` (the drive or the sample), then the clock pulse. -/
inductive BitOp where
  | turn
  | level
  | clockHigh
  | highTime
  | clockLow
  | lowTime
  deriving DecidableEq, Repr

/-- Which byte of a transaction: 0 the address byte, 1 the data byte (R21). -/
inductive TxByte where
  | address
  | data
  deriving DecidableEq, Repr

/-- The phases of rule R22, each with the micro-operation it is at. -/
inductive Phase where
  | idle
  | swStart (k : StartOp)
  | swCheck (k : CheckOp)
  | swBitWaitHigh
  | swBitDelay
  | swBitSample
  | swBitWaitLow
  | swValidate
  | rtcBegin (k : BeginOp)
  | rtcWrBit (k : BitOp)
  | rtcRdBit (k : BitOp)
  | rtcEnd
  | bcd
  deriving DecidableEq, Repr

/-- The sequencer `SEQ` (R21). `sampled` is the level `SwReadBit` holds between its steps (c) and (d) (R112). -/
structure Seq where
  phase : Phase
  cmd : Word24
  step : Fin 9
  byte : FrameIx
  txByte : TxByte
  bit : Fin 8
  spin : Nat
  resp : Byte
  sampled : Level
  deriving DecidableEq, Repr

/-- `SEQ` between commands: phase `IDLE`; the other fields are immaterial (R32) and held at zero (Log 8). -/
def Seq.idle : Seq where
  phase := .idle
  cmd := 0
  step := 0
  byte := .b0
  txByte := .address
  bit := 0
  spin := 0
  resp := 0
  sampled := .low

/-- What the host does next. -/
inductive HostAct where
  /-- Hand over a command word and do nothing until the engine is done with it: the host of R75 and R249. -/
  | issue (w : Word24)
  /-- Write register `n`; the engine then runs one micro-operation at a time (R10, R18). -/
  | write (n : Nat) (w : Word24)
  /-- Read register `n` (R10, R249). -/
  | read (n : Nat)
  /-- Assert reset (R230, R231). -/
  | reset
  /-- Do nothing while the engine performs one micro-operation. -/
  | wait
  deriving DecidableEq, Repr

/-- The machine's state. `tick` holds `TICK` in its host register's width (R10). The last six fields are the model's own: `trace` is bookkeeping (R30); `answers` are the
environment's answers to the coming samples, in order (R181); `draws` counts the free values drawn; `host` is
what the host does next; `hostData` is what its last register read returned; `probe` is a register transaction,
address and data byte, laid in from outside the machine to run a row of the address table by itself, which no host
action can do (R9, D6; Log 10). -/
structure State where
  flags : Flags
  regs : Regs
  tick : Word32
  pins : Pins
  hidden : Hidden
  seq : Seq
  trace : List Event
  answers : List Level
  draws : Nat
  host : List HostAct
  hostData : Word32
  probe : Option (Byte × Byte)
  deriving DecidableEq, Repr

/-- The machine right after reset (R32). Values the spec leaves unspecified: `tick` (Log 6), `hidden` (Log 7),
the fields of `seq` but `phase` (Log 8); the model's own fields are empty (Log 2, Log 3, Log 12). -/
def State.reset : State where
  flags := { busy := false, ckok := false, ill := false }
  regs :=
    { pres := 0, frame0 := 0, frame1 := 0, frame2 := 0, frame3 := 0, frame4 := 0, hum := 0, temp := 0,
      timeSec := 0, timeMin := 0, timeHour := 0, timeDate := 0, timeMonth := 0, timeYear := 0, rdata := 0 }
  tick := 0
  pins :=
    { swMode := .input, datMode := .input, swLatch := .high, datLatch := .low, clkLatch := .low,
      ceLatch := .low }
  hidden := { sh := 0, acc := 0, v := 0 }
  seq := Seq.idle
  trace := []
  answers := []
  draws := 0
  host := []
  hostData := 0
  probe := none

end Sys2Proof.Machine
end

