-- ==== Sys2Proof/Machine/Ops.lean ====
section
/-! DEFINITION. The shared micro-operations: the Digital Line Controller (R90 to R93, R98, R99), the Microsecond
Timer (R94, R95, R97), the bounded spin-wait (R96) of spec/40_line_and_timer.md, and how a command begins and
ends (R18 of spec/10_state.md). The engine takes no exception and returns from none (R200, R207, R208), so no
operation for that stands here. -/

namespace Sys2Proof.Machine

open Sys2Proof

/-- The result type of one step. -/
abbrev Result (α : Type) := Host.Outcome α Fault Refusal

/-- Continue from a next state; a stop stays a stop. -/
def Result.andThen {α β : Type} (r : Result α) (f : α → Result β) : Result β :=
  match r with
  | .next a => f a
  | .fault e => .fault e
  | .refused e => .refused e

/-- Apply a total function to a next state. -/
def Result.mapNext {α β : Type} (r : Result α) (f : α → β) : Result β :=
  r.andThen fun a => .next (f a)

/-- `Emit(e)`: append an event to the trace (R8, R30). -/
def emit (e : Event) (s : State) : State := { s with trace := s.trace ++ [e] }

/-- `mode[l]`: stored for `SW` and `DAT`, Output for ever on `CLK` and `CE` (R14, R99). -/
def modeOf (l : Line) (s : State) : Mode :=
  match l with
  | .sw => s.pins.swMode
  | .dat => s.pins.datMode
  | .clk => .output
  | .ce => .output

/-- `olat[l]` (R14). -/
def latchOf (l : Line) (s : State) : Level :=
  match l with
  | .sw => s.pins.swLatch
  | .dat => s.pins.datLatch
  | .clk => s.pins.clkLatch
  | .ce => s.pins.ceLatch

/-- The level the engine puts on a line: the latch while the line is in Output mode, nothing in Input mode
(R14, R90, R91). -/
def drivenLevel (l : Line) (s : State) : Option Level :=
  match modeOf l s with
  | .output => some (latchOf l s)
  | .input => none

/-- Write `mode[l]`. -/
def setMode (l : BiLine) (m : Mode) (s : State) : State :=
  match l with
  | .sw => { s with pins := { s.pins with swMode := m } }
  | .dat => { s with pins := { s.pins with datMode := m } }

/-- Write `olat[l]`. -/
def setLatch (l : Line) (v : Level) (s : State) : State :=
  match l with
  | .sw => { s with pins := { s.pins with swLatch := v } }
  | .dat => { s with pins := { s.pins with datLatch := v } }
  | .clk => { s with pins := { s.pins with clkLatch := v } }
  | .ce => { s with pins := { s.pins with ceLatch := v } }

/-- `SetOutput(l)` (R90). -/
def setOutput (l : BiLine) (s : State) : State := emit (.mode l .output) (setMode l .output s)

/-- `SetInput(l)` (R91); the latch keeps its value. -/
def setInput (l : BiLine) (s : State) : State := emit (.mode l .input) (setMode l .input s)

/-- The effect of `Drive(l, v)` once its mode requirement holds (R92). The whole-command meanings use it where a
`SetOutput` of the same line stands before it (Log 14). -/
def driveLine (l : Line) (v : Level) (s : State) : State := emit (.drive l v) (setLatch l v s)

/-- `Drive(l, v)`: it requires Output mode, else no meaning (R92, R98). -/
def drive (l : Line) (v : Level) (s : State) : Result State :=
  match modeOf l s with
  | .output => .next (driveLine l v s)
  | .input => .refused .driveOnInputLine

/-- The environment's next answer: the next one listed, else a free level (R181, U2; Log 2). -/
def answer (s : State) : Level × State :=
  match s.answers with
  | v :: rest => (v, { s with answers := rest })
  | [] => (Config.freeLevel s.draws, { s with draws := s.draws + 1 })

/-- The effect of `Sample(l)` once its mode requirement holds (R93). -/
def sampleLine (l : BiLine) (s : State) : Level × State :=
  let r := answer s
  (r.1, emit (.sample l r.1) r.2)

/-- `Sample(l)`: it requires Input mode, else no meaning (R93, R98). -/
def sample (l : BiLine) (s : State) : Result (Level × State) :=
  match modeOf l.line s with
  | .input => .next (sampleLine l s)
  | .output => .refused .sampleOnOutputLine

/-- How far `TICK` moves during a delay of `n` microseconds with free excess `e`: at least `n`, and, for `n` below
the tick's period, to a reading whose difference from the start, modulo the period, is at least `n`, as the wait's
end requires (R94, R97; Log 6). -/
def tickAdvance (p : Params) (n e : Nat) : Nat := n + e % (2 ^ p.tickBits - n)

/-- Let `TICK` advance by `d` microseconds, wrapping at 2^`TICK_BITS` (R19). -/
def advanceTick (p : Params) (d : Nat) (s : State) : State :=
  { s with tick := BitVec.ofNat 32 ((s.tick.toNat + d) % 2 ^ p.tickBits) }

/-- `DelayUs(n)`: at least `n` microseconds pass (R94). -/
def delayUs (p : Params) (n : Nat) (s : State) : State :=
  let s := advanceTick p (tickAdvance p n (Config.freeExcess s.draws)) s
  emit (.delay n) { s with draws := s.draws + 1 }

/-- `DelayMs(n)`: recorded in microseconds (R95, R30). -/
def delayMs (p : Params) (n : Nat) (s : State) : State := delayUs p (1000 * n) s

/-- A free time passes without an event (R19: the timer "runs always"). -/
def idleTime (p : Params) (s : State) : State :=
  let s := advanceTick p (Config.freeElapsed s.draws) s
  { s with draws := s.draws + 1 }

/-- How a spin-wait ends (R96). -/
inductive Spin where
  | reached
  | exhausted
  deriving DecidableEq, Repr

/-- `SpinUntil(l, v, N)`: at most `N` samples, the first at once, no delay between (R96). -/
def spinUntil (l : BiLine) (v : Level) : Nat → State → Spin × State
  | 0, s => (.exhausted, s)
  | n + 1, s =>
    let r := sampleLine l s
    if r.1 = v then (.reached, r.2) else spinUntil l v n r.2

/-- A legal command is accepted: `ILL <- 0`, `BUSY <- 1` (R18). -/
def beginCommand (s : State) : State := { s with flags := { s.flags with ill := false, busy := true } }

/-- A command ends: `BUSY <- 0`, `SEQ.phase <- IDLE` (R18); the next starts with `SEQ` rebuilt (R208). -/
def endCommand (s : State) : State :=
  { s with flags := { s.flags with busy := false }, seq := Seq.idle }

/-- Run a command's body as a whole, from its acceptance to the fall of `BUSY` (R18). -/
def runCommand (body : State → State) (s : State) : Result State := .next (endCommand (body (beginCommand s)))

end Sys2Proof.Machine
end

