-- ==== Sys2Proof/Machine/Operands.lean ====
section
/-! DEFINITION. Operand and data forms: levels and bits (R7), the BCD decoder and encoder (R170, R171), the checksum
sum (R115), the register slots of the frame and of the clock fields (R11, R13), and the lists of transactions
that `RTC.INIT` and `RTC.GETTIME` make (R149, R150). -/

namespace Sys2Proof.Machine

open Sys2Proof

/-- Bit `i` of a byte as a line level (R7). -/
def bitLevel (b : Byte) (i : Nat) : Level := if b.getLsbD i then .high else .low

/-- A level as a byte, 0 or 1 (R7). -/
def levelByte : Level → Byte
  | .low => 0
  | .high => 1

/-- `BcdDec(value)`: `tens * 10 + ones`, total on all 256 bytes, at most 165 (R170). -/
def bcdDec (value : Byte) : Byte := BitVec.ofNat 8 (value.toNat / 16 * 10 + value.toNat % 16)

/-- `BcdEnc(decimal)` for 0 to 99; no value above (R171, U9). -/
def bcdEnc (decimal : Nat) : Option Byte :=
  if decimal ≤ 99 then some (BitVec.ofNat 8 (decimal / 10 * 16 + decimal % 10)) else none

/-- Both nibbles at most 9 (R71). -/
def validBcd (v : Byte) : Bool := decide (v.toNat / 16 ≤ 9) && decide (v.toNat % 16 ≤ 9)

/-- `Checksum(b0, b1, b2, b3)`: the sum as natural numbers, modulo 256 (R115). -/
def checksum (b0 b1 b2 b3 : Byte) : Byte := BitVec.ofNat 8 (b0.toNat + b1.toNat + b2.toNat + b3.toNat)

/-- The number of a frame byte (R11). -/
def frameNumber : FrameIx → Nat
  | .b0 => 0
  | .b1 => 1
  | .b2 => 2
  | .b3 => 3
  | .b4 => 4

/-- The `FRAME_BYTES` frame bytes in order (R114, R6). -/
def frameOrder (p : Params) : List FrameIx := [FrameIx.b0, .b1, .b2, .b3, .b4].take p.frameBytes

/-- The next frame byte, none after the last (R114). -/
def nextFrameIx (p : Params) (k : FrameIx) : Option FrameIx := (frameOrder p)[frameNumber k + 1]?

/-- `FRAME[k]` (R11). -/
def frameByte (k : FrameIx) (s : State) : Byte :=
  match k with
  | .b0 => s.regs.frame0
  | .b1 => s.regs.frame1
  | .b2 => s.regs.frame2
  | .b3 => s.regs.frame3
  | .b4 => s.regs.frame4

/-- `FRAME[k] <- b` (R114). -/
def setFrame (k : FrameIx) (b : Byte) (s : State) : State :=
  match k with
  | .b0 => { s with regs := { s.regs with frame0 := b } }
  | .b1 => { s with regs := { s.regs with frame1 := b } }
  | .b2 => { s with regs := { s.regs with frame2 := b } }
  | .b3 => { s with regs := { s.regs with frame3 := b } }
  | .b4 => { s with regs := { s.regs with frame4 := b } }

/-- `PRES <- code` (R117). -/
def setPres (code : Byte) (s : State) : State := { s with regs := { s.regs with pres := code } }

/-- The register of a time field (R13). -/
def timeReg (f : TimeField) (s : State) : Byte :=
  match f with
  | .sec => s.regs.timeSec
  | .min => s.regs.timeMin
  | .hour => s.regs.timeHour
  | .date => s.regs.timeDate
  | .month => s.regs.timeMonth
  | .year => s.regs.timeYear

/-- Write the register of a time field (R150). -/
def setTime (f : TimeField) (b : Byte) (s : State) : State :=
  match f with
  | .sec => { s with regs := { s.regs with timeSec := b } }
  | .min => { s with regs := { s.regs with timeMin := b } }
  | .hour => { s with regs := { s.regs with timeHour := b } }
  | .date => { s with regs := { s.regs with timeDate := b } }
  | .month => { s with regs := { s.regs with timeMonth := b } }
  | .year => { s with regs := { s.regs with timeYear := b } }

/-- `RDATA <- b` (R16). -/
def setRdata (b : Byte) (s : State) : State := { s with regs := { s.regs with rdata := b } }

/-- The six fields in the order `RTC.GETTIME` reads them (R150). -/
def timeFields : List TimeField := [.sec, .min, .hour, .date, .month, .year]

/-- The seven seed writes, address and byte, in the order the source lists the addresses (R149, D17). -/
def seedWrites (p : Params) : List (Byte × Byte) :=
  [ (ClockField.sec.writeAddr, p.seed0), (ClockField.min.writeAddr, p.seed1),
    (ClockField.hour.writeAddr, p.seed2), (ClockField.date.writeAddr, p.seed3),
    (ClockField.month.writeAddr, p.seed4), (ClockField.f7.writeAddr, p.seed5),
    (ClockField.year.writeAddr, p.seed6) ]

/-- The write transactions of `RTC.INIT`: unlock, the seeds if enabled, lock (R149). -/
def initWrites (p : Params) : List (Byte × Byte) :=
  (ClockField.wp.writeAddr, p.wpUnlock) ::
    ((if p.seedEnable then seedWrites p else []) ++ [(ClockField.wp.writeAddr, p.wpLock)])

end Sys2Proof.Machine
end

