-- ==== Sys2Proof/Machine/Flags.lean ====
section
/-! DEFINITION. The flags: `STATUS` as the host reads it (R17), the acceptance test behind `CKOK` (R116), `ILL`
(R18, R63). The engine has no carry, zero, overflow or sign flag (R17). -/

namespace Sys2Proof.Machine

open Sys2Proof

/-- One bit of a byte register. -/
def flagBit (b : Bool) (i : Nat) : Byte := if b then (1 : Byte) <<< i else 0

/-- `STATUS`: bit 0 `BUSY`, bit 1 `CKOK`, bit 2 `ILL`, bits 7 to 3 read as 0 (R17). -/
def statusByte (f : Flags) : Byte := flagBit f.busy 0 ||| flagBit f.ckok 1 ||| flagBit f.ill 2

/-- The acceptance test: the fifth byte equals the checksum of the first four (R116). -/
def frameAccepted (s : State) : Bool :=
  s.regs.frame4 == checksum s.regs.frame0 s.regs.frame1 s.regs.frame2 s.regs.frame3

/-- `STATUS.CKOK <- accepted` (R116). -/
def setCkok (b : Bool) (s : State) : State := { s with flags := { s.flags with ckok := b } }

/-- `STATUS.ILL <- 1` (R18, R63). -/
def markIllegal (s : State) : State := { s with flags := { s.flags with ill := true } }

end Sys2Proof.Machine
end

