-- ==== Sys2Proof/Machine/Bcd.lean ====
section
/-! DEFINITION. The decoder's command: `BCD.DEC` (R173 of spec/43_bcd.md). -/

namespace Sys2Proof.Machine

open Sys2Proof

/-- `BCD.DEC b`: `RDATA <- BcdDec(b)`; no pin event, no delay, no parameter (R173). -/
def runBcdDec (b : Byte) (s : State) : Result State := runCommand (setRdata (bcdDec b)) s

/-- `BCD.DEC b` (R173). -/
def execBcdDec (b : Byte) (s : State) : Result State := runBcdDec b s

end Sys2Proof.Machine
end

