-- ==== Sys2Proof/Machine/ThreeWire.lean ====
section
/-! DEFINITION. The three-wire half: the shifters, the framing, the register transactions (R140 to R146) and the four
commands (R147 to R150) of spec/42_three_wire.md. `CLK` and `CE` are always Output; every `Drive(DAT, _)` is in
`writeByte` after its `SetOutput(DAT)`, every `Sample(DAT)` in `readByte` after its `SetInput(DAT)` (R98; Log 14). -/

namespace Sys2Proof.Machine

open Sys2Proof

/-- `ClkPulse()` (R140). -/
def clkPulse (p : Params) (s : State) : State :=
  s |> driveLine .clk .high
    |> delayUs p p.tClkPhaseUs
    |> driveLine .clk .low
    |> delayUs p p.tClkPhaseUs

/-- `sh <- value` (R141). -/
def loadSh (value : Byte) (s : State) : State := { s with hidden := { s.hidden with sh := value } }

/-- `Drive(DAT, sh[0])` (R141). -/
def driveShiftBit (s : State) : State := driveLine .dat (bitLevel s.hidden.sh 0) s

/-- `sh <- sh >> 1` (R141). -/
def shiftSh (s : State) : State := { s with hidden := { s.hidden with sh := s.hidden.sh >>> 1 } }

/-- One iteration of `WriteByte` (R141). -/
def writeBit (p : Params) (s : State) : State := s |> driveShiftBit |> clkPulse p |> shiftSh

/-- The loop of `WriteByte`: `n` iterations (R141). -/
def writeBits (p : Params) : Nat → State → State
  | 0, s => s
  | n + 1, s => writeBits p n (writeBit p s)

/-- `WriteByte(value)`: least significant bit first (R141). -/
def writeByte (p : Params) (value : Byte) (s : State) : State :=
  s |> setOutput .dat |> loadSh value |> writeBits p p.byteBits

/-- `acc <- 0x00` (R142). -/
def clearAcc (s : State) : State := { s with hidden := { s.hidden with acc := 0 } }

/-- `acc <- acc >> 1` (R142). -/
def shiftAcc (s : State) : State := { s with hidden := { s.hidden with acc := s.hidden.acc >>> 1 } }

/-- A sampled level enters the top of the accumulator: `acc <- acc | 0x80` if it is 1 (R142; the top bit is number
`BYTE_BITS - 1`). -/
def orAcc (p : Params) (v : Level) (s : State) : State :=
  { s with hidden := { s.hidden with acc := s.hidden.acc ||| levelByte v <<< (p.byteBits - 1) } }

/-- `if Sample(DAT) = 1 then acc <- acc | 0x80` (R142). -/
def sampleAcc (p : Params) (s : State) : State :=
  let r := sampleLine .dat s
  orAcc p r.1 r.2

/-- One iteration of `ReadByte`: the sample comes before the pulse (R142). -/
def readBit (p : Params) (s : State) : State := s |> shiftAcc |> sampleAcc p |> clkPulse p

/-- The loop of `ReadByte`: `n` iterations (R142). -/
def readBits (p : Params) : Nat → State → State
  | 0, s => s
  | n + 1, s => readBits p n (readBit p s)

/-- `ReadByte()`, the value left in `acc` (R142). -/
def readByte (p : Params) (s : State) : State :=
  s |> setInput .dat |> clearAcc |> readBits p p.byteBits

/-- `BeginTransaction()`: clock Low, then enable High (R143, D15). -/
def beginTransaction (s : State) : State := s |> driveLine .clk .low |> driveLine .ce .high

/-- `EndTransaction()` (R144). -/
def endTransaction (s : State) : State := driveLine .ce .low s

/-- `WriteRegister(address, value)`, also `MemWrite(address, 1, value)` (R145). -/
def writeRegister (p : Params) (address value : Byte) (s : State) : State :=
  s |> beginTransaction |> writeByte p address |> writeByte p value |> endTransaction

/-- `ReadRegister(address)`, also `MemRead(address, 1)`; the value is left in `acc` (R146). -/
def readRegister (p : Params) (address : Byte) (s : State) : State :=
  s |> beginTransaction |> writeByte p address |> readByte p |> endTransaction

/-- The write transactions of a list, in order (R149). -/
def writeAll (p : Params) (ws : List (Byte × Byte)) (s : State) : State :=
  ws.foldl (fun s w => writeRegister p w.1 w.2 s) s

/-- `TIME_f <- BcdDec(acc)`, `acc` holding the byte just read (R150). -/
def storeTime (f : TimeField) (s : State) : State := setTime f (bcdDec s.hidden.acc) s

/-- `RDATA <- acc`, `acc` holding the byte just read (R148). -/
def storeRdata (s : State) : State := setRdata s.hidden.acc s

/-- One field of `RTC.GETTIME`: read, decode, store as it arrives (R150, D28). -/
def readField (p : Params) (s : State) (f : TimeField) : State :=
  s |> readRegister p f.clockField.readAddr |> storeTime f

/-- The body of `RTC.GETTIME` (R150). -/
def getTimeBody (p : Params) (s : State) : State := timeFields.foldl (readField p) s

/-- `RTC.WRREG a, b` with the parameters `p` (R147). -/
def runRtcWrreg (p : Params) (a b : Byte) (s : State) : Result State := runCommand (writeRegister p a b) s

/-- `RTC.RDREG a` with the parameters `p` (R148). -/
def runRtcRdreg (p : Params) (a : Byte) (s : State) : Result State :=
  runCommand (fun s => storeRdata (readRegister p a s)) s

/-- `RTC.INIT` with the parameters `p` (R149). -/
def runRtcInit (p : Params) (s : State) : Result State := runCommand (writeAll p (initWrites p)) s

/-- `RTC.GETTIME` with the parameters `p` (R150). -/
def runRtcGettime (p : Params) (s : State) : Result State := runCommand (getTimeBody p) s

/-- `RTC.WRREG a, b` (R147). -/
def execRtcWrreg (a b : Byte) (s : State) : Result State := runRtcWrreg Config.params a b s

/-- `RTC.RDREG a` (R148). -/
def execRtcRdreg (a : Byte) (s : State) : Result State := runRtcRdreg Config.params a s

/-- `RTC.INIT` (R149). -/
def execRtcInit (s : State) : Result State := runRtcInit Config.params s

/-- `RTC.GETTIME` (R150). -/
def execRtcGettime (s : State) : Result State := runRtcGettime Config.params s

end Sys2Proof.Machine
end

