-- ==== Sys2Proof/Machine/BusAddress.lean ====
section
/-! DEFINITION. The sixteen address bytes of the three-wire bus (R70): each opens one register transaction, a
`WriteRegister` of the data byte after it (even, R145) or a `ReadRegister` (odd, R146). They are micro-operations,
not host commands: no flag and no host register changes, and no host action issues one (R9, D6; Log 10). -/

namespace Sys2Proof.Machine

open Sys2Proof

/-- `A_SEC_W` 0x80: write second, with the parameters `p` (R70, R145). -/
def runASecW (p : Params) (v : Byte) (s : State) : Result State :=
  .next (writeRegister p ClockField.sec.writeAddr v s)

/-- `A_SEC_W` 0x80: write second (R70, R145). -/
def execASecW (v : Byte) (s : State) : Result State := runASecW Config.params v s

/-- `A_SEC_R` 0x81: read second, the byte left in `acc`, with the parameters `p` (R70, R146). -/
def runASecR (p : Params) (s : State) : Result State :=
  .next (readRegister p ClockField.sec.readAddr s)

/-- `A_SEC_R` 0x81: read second, the byte left in `acc` (R70, R146). -/
def execASecR (s : State) : Result State := runASecR Config.params s

/-- `A_MIN_W` 0x82: write minute, with the parameters `p` (R70, R145). -/
def runAMinW (p : Params) (v : Byte) (s : State) : Result State :=
  .next (writeRegister p ClockField.min.writeAddr v s)

/-- `A_MIN_W` 0x82: write minute (R70, R145). -/
def execAMinW (v : Byte) (s : State) : Result State := runAMinW Config.params v s

/-- `A_MIN_R` 0x83: read minute, the byte left in `acc`, with the parameters `p` (R70, R146). -/
def runAMinR (p : Params) (s : State) : Result State :=
  .next (readRegister p ClockField.min.readAddr s)

/-- `A_MIN_R` 0x83: read minute, the byte left in `acc` (R70, R146). -/
def execAMinR (s : State) : Result State := runAMinR Config.params s

/-- `A_HOUR_W` 0x84: write hour, with the parameters `p` (R70, R145). -/
def runAHourW (p : Params) (v : Byte) (s : State) : Result State :=
  .next (writeRegister p ClockField.hour.writeAddr v s)

/-- `A_HOUR_W` 0x84: write hour (R70, R145). -/
def execAHourW (v : Byte) (s : State) : Result State := runAHourW Config.params v s

/-- `A_HOUR_R` 0x85: read hour, the byte left in `acc`, with the parameters `p` (R70, R146). -/
def runAHourR (p : Params) (s : State) : Result State :=
  .next (readRegister p ClockField.hour.readAddr s)

/-- `A_HOUR_R` 0x85: read hour, the byte left in `acc` (R70, R146). -/
def execAHourR (s : State) : Result State := runAHourR Config.params s

/-- `A_DATE_W` 0x86: write day-of-month, with the parameters `p` (R70, R145). -/
def runADateW (p : Params) (v : Byte) (s : State) : Result State :=
  .next (writeRegister p ClockField.date.writeAddr v s)

/-- `A_DATE_W` 0x86: write day-of-month (R70, R145). -/
def execADateW (v : Byte) (s : State) : Result State := runADateW Config.params v s

/-- `A_DATE_R` 0x87: read day-of-month, the byte left in `acc`, with the parameters `p` (R70, R146). -/
def runADateR (p : Params) (s : State) : Result State :=
  .next (readRegister p ClockField.date.readAddr s)

/-- `A_DATE_R` 0x87: read day-of-month, the byte left in `acc` (R70, R146). -/
def execADateR (s : State) : Result State := runADateR Config.params s

/-- `A_MONTH_W` 0x88: write month, with the parameters `p` (R70, R145). -/
def runAMonthW (p : Params) (v : Byte) (s : State) : Result State :=
  .next (writeRegister p ClockField.month.writeAddr v s)

/-- `A_MONTH_W` 0x88: write month (R70, R145). -/
def execAMonthW (v : Byte) (s : State) : Result State := runAMonthW Config.params v s

/-- `A_MONTH_R` 0x89: read month, the byte left in `acc`, with the parameters `p` (R70, R146). -/
def runAMonthR (p : Params) (s : State) : Result State :=
  .next (readRegister p ClockField.month.readAddr s)

/-- `A_MONTH_R` 0x89: read month, the byte left in `acc` (R70, R146). -/
def execAMonthR (s : State) : Result State := runAMonthR Config.params s

/-- `A_F7_W` 0x8A: write the unnamed seventh field, with the parameters `p` (R70, R145). -/
def runAF7W (p : Params) (v : Byte) (s : State) : Result State :=
  .next (writeRegister p ClockField.f7.writeAddr v s)

/-- `A_F7_W` 0x8A: write the unnamed seventh field (R70, R145). -/
def execAF7W (v : Byte) (s : State) : Result State := runAF7W Config.params v s

/-- `A_F7_R` 0x8B: read the unnamed seventh field, the byte left in `acc`, with the parameters `p` (R70, R146). -/
def runAF7R (p : Params) (s : State) : Result State :=
  .next (readRegister p ClockField.f7.readAddr s)

/-- `A_F7_R` 0x8B: read the unnamed seventh field, the byte left in `acc` (R70, R146). -/
def execAF7R (s : State) : Result State := runAF7R Config.params s

/-- `A_YEAR_W` 0x8C: write year (2-digit), with the parameters `p` (R70, R145). -/
def runAYearW (p : Params) (v : Byte) (s : State) : Result State :=
  .next (writeRegister p ClockField.year.writeAddr v s)

/-- `A_YEAR_W` 0x8C: write year (2-digit) (R70, R145). -/
def execAYearW (v : Byte) (s : State) : Result State := runAYearW Config.params v s

/-- `A_YEAR_R` 0x8D: read year (2-digit), the byte left in `acc`, with the parameters `p` (R70, R146). -/
def runAYearR (p : Params) (s : State) : Result State :=
  .next (readRegister p ClockField.year.readAddr s)

/-- `A_YEAR_R` 0x8D: read year (2-digit), the byte left in `acc` (R70, R146). -/
def execAYearR (s : State) : Result State := runAYearR Config.params s

/-- `A_WP_W` 0x8E: write the write-protection control, with the parameters `p` (R70, R145). -/
def runAWpW (p : Params) (v : Byte) (s : State) : Result State :=
  .next (writeRegister p ClockField.wp.writeAddr v s)

/-- `A_WP_W` 0x8E: write the write-protection control (R70, R145). -/
def execAWpW (v : Byte) (s : State) : Result State := runAWpW Config.params v s

/-- `A_WP_R` 0x8F: read the write-protection control, the byte left in `acc`, with the parameters `p` (R70, R146). -/
def runAWpR (p : Params) (s : State) : Result State :=
  .next (readRegister p ClockField.wp.readAddr s)

/-- `A_WP_R` 0x8F: read the write-protection control, the byte left in `acc` (R70, R146). -/
def execAWpR (s : State) : Result State := runAWpR Config.params s

end Sys2Proof.Machine
end

