-- ==== Sys2Proof/Machine/SingleWire.lean ====
section
/-! DEFINITION. The single-wire half: the phases of rules R110 to R116 and the command `SW.READ` (R117) of
spec/41_single_wire.md. Every `Sample(SW)` here follows the `SetInput(SW)` of `swStart`, every `Drive(SW, _)`
its `SetOutput(SW)` (R98; Log 14). -/

namespace Sys2Proof.Machine

open Sys2Proof

/-- `SwStart()` (R110). -/
def swStart (p : Params) (s : State) : State :=
  s |> setOutput .sw
    |> driveLine .sw .low
    |> delayMs p p.tResetLowMs
    |> driveLine .sw .high
    |> delayUs p p.tStartHighUs
    |> setInput .sw

/-- The samples of `SwCheckResponse()`: the code they choose, before the guard (R111). -/
def swProbe (p : Params) (s : State) : Byte × State :=
  let first := sampleLine .sw (delayUs p p.tRespWaitUs s)
  match first.1 with
  | .high => (p.presNone, first.2)
  | .low =>
    let second := sampleLine .sw (delayUs p p.tRespHighUs first.2)
    match second.1 with
    | .high => (p.presOk, second.2)
    | .low => (p.presErr, second.2)

/-- `SwCheckResponse() -> code`: the guard runs on all three paths and its timeout overrides the code (R111). -/
def swCheckResponse (p : Params) (s : State) : Byte × State :=
  let probe := swProbe p s
  match spinUntil .sw .low p.nResp probe.2 with
  | (.exhausted, s1) => (p.presTimeout, s1)
  | (.reached, s1) => (probe.1, s1)

/-- `SwReadBit() -> bit | Abort`: none is `Abort` (R112). -/
def swReadBit (p : Params) (s : State) : Option Level × State :=
  match spinUntil .sw .high p.nBitStart s with
  | (.exhausted, s1) => (none, s1)
  | (.reached, s1) =>
    let b := sampleLine .sw (delayUs p p.tBitSampleUs s1)
    match spinUntil .sw .low p.nBitEnd b.2 with
    | (.exhausted, s2) => (none, s2)
    | (.reached, s2) => (some b.1, s2)

/-- `v <- 0x00` (R113). -/
def clearV (s : State) : State := { s with hidden := { s.hidden with v := 0 } }

/-- `v <- v | (r << (7 - j))`: the first bit received is the byte's top bit (R113; 7 is `BYTE_BITS - 1`). -/
def orBit (p : Params) (r : Level) (j : Nat) (s : State) : State :=
  { s with hidden := { s.hidden with v := s.hidden.v ||| levelByte r <<< (p.byteBits - 1 - j) } }

/-- The loop of `SwReadByte()` over the bit numbers still to read: true when none aborted (R113). -/
def swReadBits (p : Params) : List Nat → State → Bool × State
  | [], s => (true, s)
  | j :: js, s =>
    match swReadBit p s with
    | (none, s1) => (false, s1)
    | (some r, s1) => swReadBits p js (orBit p r j s1)

/-- `SwReadByte() -> byte`: most significant bit first; on an `Abort` the whole byte is 0 (R113). -/
def swReadByte (p : Params) (s : State) : Byte × State :=
  match swReadBits p (List.range p.byteBits) (clearV s) with
  | (true, s1) => (s1.hidden.v, s1)
  | (false, s1) => (0, s1)

/-- One iteration of `SwReadFrame()`: `FRAME[k] <- SwReadByte()` (R114). -/
def swReadInto (p : Params) (k : FrameIx) (s : State) : State :=
  let r := swReadByte p s
  setFrame k r.1 r.2

/-- `SwReadFrame()`: all its bytes, whatever happened before (R114). -/
def swReadFrame (p : Params) (s : State) : State := (frameOrder p).foldl (fun s k => swReadInto p k s) s

/-- `HUM <- FRAME0`, `TEMP <- FRAME2` (R116). -/
def takeReading (s : State) : State :=
  { s with regs := { s.regs with hum := s.regs.frame0, temp := s.regs.frame2 } }

/-- `SwValidate()` (R116). -/
def swValidate (s : State) : State :=
  setCkok (frameAccepted s) (if frameAccepted s then takeReading s else s)

/-- `PRES <- SwCheckResponse()` (R117). -/
def swStorePresence (p : Params) (s : State) : State :=
  let r := swCheckResponse p s
  setPres r.1 r.2

/-- The body of `SW.READ` (R117). -/
def swReadBody (p : Params) (s : State) : State :=
  s |> swStart p |> swStorePresence p |> swReadFrame p |> swValidate

/-- `SW.READ` with the parameters `p` (R117). -/
def runSwRead (p : Params) (s : State) : Result State := runCommand (swReadBody p) s

/-- `SW.READ` (R117). -/
def execSwRead (s : State) : Result State := runSwRead Config.params s

end Sys2Proof.Machine
end

