-- ==== Sys2Proof/Machine/Dispatch.lean ====
section
/-! DEFINITION. One arm per instruction, one meaning per arm. -/

namespace Sys2Proof.Machine

def exec (i : Instr) (s : State) : Host.Outcome State Fault Refusal :=
  match i with
  | .swRead => Sys2Proof.Machine.execSwRead s
  | .rtcWrreg a b => Sys2Proof.Machine.execRtcWrreg a b s
  | .rtcRdreg a => Sys2Proof.Machine.execRtcRdreg a s
  | .rtcInit => Sys2Proof.Machine.execRtcInit s
  | .rtcGettime => Sys2Proof.Machine.execRtcGettime s
  | .bcdDec b => Sys2Proof.Machine.execBcdDec b s
  | .aSecW v => Sys2Proof.Machine.execASecW v s
  | .aSecR => Sys2Proof.Machine.execASecR s
  | .aMinW v => Sys2Proof.Machine.execAMinW v s
  | .aMinR => Sys2Proof.Machine.execAMinR s
  | .aHourW v => Sys2Proof.Machine.execAHourW v s
  | .aHourR => Sys2Proof.Machine.execAHourR s
  | .aDateW v => Sys2Proof.Machine.execADateW v s
  | .aDateR => Sys2Proof.Machine.execADateR s
  | .aMonthW v => Sys2Proof.Machine.execAMonthW v s
  | .aMonthR => Sys2Proof.Machine.execAMonthR s
  | .aF7W v => Sys2Proof.Machine.execAF7W v s
  | .aF7R => Sys2Proof.Machine.execAF7R s
  | .aYearW v => Sys2Proof.Machine.execAYearW v s
  | .aYearR => Sys2Proof.Machine.execAYearR s
  | .aWpW v => Sys2Proof.Machine.execAWpW v s
  | .aWpR => Sys2Proof.Machine.execAWpR s

end Sys2Proof.Machine
end

