-- ==== Sys2Proof/Machine/Sequencer.lean ====
section
/-! DEFINITION. The sequencer: the engine run by its phase table, one micro-operation a step (R18, R21, R22 of
spec/10_state.md). `Drive` and `Sample` here are the checked ones (R92, R93, R98). A host that writes `CMD` bare
sees the engine this way, and may act between any two micro-operations. -/

namespace Sys2Proof.Machine

open Sys2Proof

/-- `SEQ.phase <- ph` (R8). -/
def goto (ph : Phase) (s : State) : State := { s with seq := { s.seq with phase := ph } }

/-- `SEQ.spin <- n` (R96). -/
def setSpin (n : Nat) (s : State) : State := { s with seq := { s.seq with spin := n } }

/-- `SEQ.resp <- code` (R111). -/
def setResp (code : Byte) (s : State) : State := { s with seq := { s.seq with resp := code } }

/-- `SEQ.bit <- j`. -/
def setBit (j : Fin 8) (s : State) : State := { s with seq := { s.seq with bit := j } }

/-- `SEQ.byte <- k`, a frame byte. -/
def setByte (k : FrameIx) (s : State) : State := { s with seq := { s.seq with byte := k } }

/-- `SEQ.byte <- b`, a byte of a transaction. -/
def setTxByte (b : TxByte) (s : State) : State := { s with seq := { s.seq with txByte := b } }

/-- `SEQ.step <- k`. -/
def setStep (k : Fin 9) (s : State) : State := { s with seq := { s.seq with step := k } }

/-- `b <- Sample(SW)` of `SwReadBit` step (c) (R112). -/
def setSampled (v : Level) (s : State) : State := { s with seq := { s.seq with sampled := v } }

/-- One register transaction: a write with its data byte, or a read (R145, R146). -/
inductive Tx where
  | write (address value : Byte)
  | read (address : Byte)
  deriving DecidableEq, Repr

/-- The address byte of a transaction. -/
def txAddress : Tx → Byte
  | .write a _ => a
  | .read a => a

/-- The transactions a command makes, in order (R147 to R150). -/
def txs (p : Params) : Instr → List Tx
  | .rtcWrreg a b => [.write a b]
  | .rtcRdreg a => [.read a]
  | .rtcInit => (initWrites p).map fun w => .write w.1 w.2
  | .rtcGettime => timeFields.map fun f => .read f.clockField.readAddr
  | _ => []

/-- The command the engine is running: what `SEQ.cmd` decodes to. -/
def running (s : State) : Option Instr :=
  match decodeCmd s.seq.cmd with
  | .ok i => some i
  | .error _ => none

/-- The transaction `SEQ.step` names (R21). -/
def currentTx (p : Params) (s : State) : Option Tx := (running s).bind fun i => (txs p i)[s.seq.step.val]?

/-- The first phase of a command (R22, `IDLE`). -/
def firstPhase : Instr → Phase
  | .swRead => .swStart .toOutput
  | .bcdDec _ => .bcd
  | _ => .rtcBegin .clockLow

/-- A legal command word is accepted: flags, and `SEQ` rebuilt at the command's first phase (R18, R208). -/
def acceptCommand (w : Word24) (i : Instr) (s : State) : State :=
  { beginCommand s with seq := { Seq.idle with phase := firstPhase i, cmd := w } }

/-- How one poll of a spin-wait leaves it (R96). -/
inductive Poll where
  | reached
  | again
  | exhausted
  deriving DecidableEq, Repr

/-- One turn of the spin-wait's loop: out of budget, or one sample (R96). -/
def pollStep (l : BiLine) (v : Level) (n : Nat) (s : State) : Result (Poll × State) :=
  if s.seq.spin < n then
    (sample l s).mapNext fun r =>
      if r.1 = v then (.reached, r.2) else (.again, setSpin (s.seq.spin + 1) r.2)
  else .next (.exhausted, s)

/-- To the bit-start wait of the next bit, its count restarted (R96, R112). -/
def enterBit (s : State) : State := s |> setSpin 0 |> goto .swBitWaitHigh

/-- To frame byte `k`: `v <- 0`, bit 0 (R113). -/
def enterByte (k : FrameIx) (s : State) : State := s |> setByte k |> setBit 0 |> clearV |> enterBit

/-- `SW_START` (R110, R22). -/
def startStep (p : Params) (k : StartOp) (s : State) : Result State :=
  match k with
  | .toOutput => .next (goto (.swStart .driveLow) (setOutput .sw s))
  | .driveLow => (drive .sw .low s).mapNext (goto (.swStart .holdLow))
  | .holdLow => .next (goto (.swStart .driveHigh) (delayMs p p.tResetLowMs s))
  | .driveHigh => (drive .sw .high s).mapNext (goto (.swStart .holdHigh))
  | .holdHigh => .next (goto (.swStart .release) (delayUs p p.tStartHighUs s))
  | .release => .next (goto (.swCheck .waitAnswer) (setInput .sw s))

/-- To the guard of the response check, its count at 0, with the code the samples chose (R111). -/
def enterGuard (code : Byte) (s : State) : State := s |> setResp code |> setSpin 0 |> goto (.swCheck .guard)

/-- `PRES <- code`, then the frame, on every outcome (R22, `SW_CHECK`). -/
def leaveCheck (code : Byte) (s : State) : State := s |> setPres code |> enterByte .b0

/-- `SW_CHECK` (R111, R22). -/
def checkStep (p : Params) (k : CheckOp) (s : State) : Result State :=
  match k with
  | .waitAnswer =>
    .next (s |> setResp p.presNone |> delayUs p p.tRespWaitUs |> goto (.swCheck .firstSample))
  | .firstSample =>
    (sample .sw s).mapNext fun r =>
      match r.1 with
      | .low => goto (.swCheck .waitHigh) r.2
      | .high => enterGuard s.seq.resp r.2
  | .waitHigh => .next (goto (.swCheck .secondSample) (delayUs p p.tRespHighUs s))
  | .secondSample =>
    (sample .sw s).mapNext fun r =>
      match r.1 with
      | .high => enterGuard p.presOk r.2
      | .low => enterGuard p.presErr r.2
  | .guard =>
    (pollStep .sw .low p.nResp s).mapNext fun r =>
      match r.1 with
      | .reached => leaveCheck s.seq.resp r.2
      | .again => r.2
      | .exhausted => leaveCheck p.presTimeout r.2

/-- "next byte": store it, then the next one or `SW_VALIDATE` (R22, R114). -/
def nextByte (p : Params) (b : Byte) (s : State) : State :=
  let s1 := setFrame s.seq.byte b s
  match nextFrameIx p s.seq.byte with
  | some k => enterByte k s1
  | none => goto .swValidate s1

/-- The bit is complete: into `v`, then the next bit or "next byte" (R113, R22). -/
def finishBit (p : Params) (s : State) : State :=
  let s1 := orBit p s.seq.sampled s.seq.bit.val s
  if s.seq.bit.val + 1 < p.byteBits then enterBit (setBit (s.seq.bit + 1) s1) else nextByte p s1.hidden.v s1

/-- `SW_BIT_WAIT_HIGH`: step (a) of a bit (R112, R22). -/
def waitHighStep (p : Params) (s : State) : Result State :=
  (pollStep .sw .high p.nBitStart s).mapNext fun r =>
    match r.1 with
    | .reached => goto .swBitDelay r.2
    | .again => r.2
    | .exhausted => nextByte p 0 r.2

/-- `SW_BIT_SAMPLE`: step (c) of a bit (R112, R22). -/
def bitSampleStep (s : State) : Result State :=
  (sample .sw s).mapNext fun r => r.2 |> setSampled r.1 |> setSpin 0 |> goto .swBitWaitLow

/-- `SW_BIT_WAIT_LOW`: step (d) of a bit (R112, R22). -/
def waitLowStep (p : Params) (s : State) : Result State :=
  (pollStep .sw .low p.nBitEnd s).mapNext fun r =>
    match r.1 with
    | .reached => finishBit p r.2
    | .again => r.2
    | .exhausted => nextByte p 0 r.2

/-- `RTC_BEGIN` (R143, R22). -/
def beginStep (k : BeginOp) (s : State) : Result State :=
  match k with
  | .clockLow => (drive .clk .low s).mapNext (goto (.rtcBegin .enableHigh))
  | .enableHigh =>
    (drive .ce .high s).mapNext fun s => s |> setTxByte .address |> setBit 0 |> goto (.rtcWrBit .turn)

/-- The byte the engine shifts out now: the address, or the data of a write (R145, R146). -/
def outByte (p : Params) (s : State) : Option Byte :=
  match s.seq.txByte, currentTx p s with
  | .address, some t => some (txAddress t)
  | .data, some (.write _ v) => some v
  | _, _ => none

/-- Where a byte's last pulse leads: the data byte, out or in, or `RTC_END` (R22, `RTC_WR_BIT`, `RTC_RD_BIT`). -/
def afterByte (p : Params) (s : State) : Result State :=
  match s.seq.txByte with
  | .data => .next (goto .rtcEnd s)
  | .address =>
    match currentTx p s with
    | some (.write _ _) => .next (s |> setTxByte .data |> setBit 0 |> goto (.rtcWrBit .turn))
    | some (.read _) => .next (s |> setTxByte .data |> setBit 0 |> goto (.rtcRdBit .turn))
    | none => .refused .sequencerOffTable

/-- After the Low time of a bit's pulse: the next bit in phase `again`, or the end of the byte (R22). -/
def afterBit (p : Params) (again : Phase) (s : State) : Result State :=
  if s.seq.bit.val + 1 < p.byteBits then .next (s |> setBit (s.seq.bit + 1) |> goto again) else afterByte p s

/-- `RTC_WR_BIT`: one micro-operation of `WriteByte` (R140, R141, R22). -/
def wrBitStep (p : Params) (k : BitOp) (s : State) : Result State :=
  match k with
  | .turn =>
    match outByte p s with
    | some b => .next (s |> setOutput .dat |> loadSh b |> goto (.rtcWrBit .level))
    | none => .refused .sequencerOffTable
  | .level => (drive .dat (bitLevel s.hidden.sh 0) s).mapNext (goto (.rtcWrBit .clockHigh))
  | .clockHigh => (drive .clk .high s).mapNext (goto (.rtcWrBit .highTime))
  | .highTime => .next (goto (.rtcWrBit .clockLow) (delayUs p p.tClkPhaseUs s))
  | .clockLow => (drive .clk .low s).mapNext (goto (.rtcWrBit .lowTime))
  | .lowTime => afterBit p (.rtcWrBit .level) (shiftSh (delayUs p p.tClkPhaseUs s))

/-- `RTC_RD_BIT`: one micro-operation of `ReadByte` (R140, R142, R22). -/
def rdBitStep (p : Params) (k : BitOp) (s : State) : Result State :=
  match k with
  | .turn => .next (s |> setInput .dat |> clearAcc |> goto (.rtcRdBit .level))
  | .level =>
    (sample .dat (shiftAcc s)).mapNext fun r => r.2 |> orAcc p r.1 |> goto (.rtcRdBit .clockHigh)
  | .clockHigh => (drive .clk .high s).mapNext (goto (.rtcRdBit .highTime))
  | .highTime => .next (goto (.rtcRdBit .clockLow) (delayUs p p.tClkPhaseUs s))
  | .clockLow => (drive .clk .low s).mapNext (goto (.rtcRdBit .lowTime))
  | .lowTime => afterBit p (.rtcRdBit .level) (delayUs p p.tClkPhaseUs s)

/-- What a finished transaction writes: `RDATA` for `RTC.RDREG`, the field of this step for `RTC.GETTIME`, nothing
otherwise (R148, R150, R22). -/
def storeTx (i : Instr) (s : State) : State :=
  match i with
  | .rtcRdreg _ => storeRdata s
  | .rtcGettime =>
    match timeFields[s.seq.step.val]? with
    | some f => storeTime f s
    | none => s
  | _ => s

/-- `RTC_END`: enable Low, the result stored, then the next transaction or the end of the command (R144, R22). -/
def endStep (p : Params) (s : State) : Result State :=
  match running s with
  | none => .refused .sequencerOffTable
  | some i =>
    (drive .ce .low s).mapNext fun s1 =>
      let s2 := storeTx i s1
      if s2.seq.step.val + 1 < (txs p i).length then
        s2 |> setStep (s2.seq.step + 1) |> goto (.rtcBegin .clockLow)
      else endCommand s2

/-- `BCD` (R173, R22). -/
def bcdStep (s : State) : Result State :=
  match running s with
  | some (.bcdDec b) => .next (endCommand (setRdata (bcdDec b) s))
  | _ => .refused .sequencerOffTable

/-- The engine performs its next micro-operation; when idle, only time passes (R22, R19; Log 17). -/
def engineStep (p : Params) (s : State) : Result State :=
  match s.seq.phase with
  | .idle => .next (idleTime p s)
  | .swStart k => startStep p k s
  | .swCheck k => checkStep p k s
  | .swBitWaitHigh => waitHighStep p s
  | .swBitDelay => .next (goto .swBitSample (delayUs p p.tBitSampleUs s))
  | .swBitSample => bitSampleStep s
  | .swBitWaitLow => waitLowStep p s
  | .swValidate => .next (endCommand (swValidate s))
  | .rtcBegin k => beginStep k s
  | .rtcWrBit k => wrBitStep p k s
  | .rtcRdBit k => rdBitStep p k s
  | .rtcEnd => endStep p s
  | .bcd => bcdStep s

/-- `n` micro-operations of the engine with the host doing nothing. -/
def engineRun (p : Params) : Nat → State → Result State
  | 0, s => .next s
  | n + 1, s => (engineStep p s).andThen (engineRun p n)

end Sys2Proof.Machine
end

