-- ==== Sys2Proof/Machine/HostPort.lean ====
section
/-! DEFINITION. The host's side and a step: taking a command (R18, R63, R206, R215), register reads and writes (R10, R41, R249),
reset (R230, R231), and where the next instruction stands (Log 13). -/

namespace Sys2Proof.Machine

open Sys2Proof

/-- The numbers of the byte registers a running command writes (R249, U4). -/
def writesRegister (i : Instr) (n : Nat) : Bool :=
  match i with
  | .swRead => decide (2 ≤ n ∧ n ≤ 9)
  | .rtcRdreg _ => n == 16
  | .bcdDec _ => n == 16
  | .rtcGettime => decide (10 ≤ n ∧ n ≤ 15)
  | _ => false

/-- The value register `n` holds, zero-extended; `CMD` and every number above 17 read 0 (R10). -/
def heldValue (n : Nat) (s : State) : Word32 :=
  match n with
  | 1 => (statusByte s.flags).setWidth 32
  | 2 => s.regs.pres.setWidth 32
  | 3 => s.regs.frame0.setWidth 32
  | 4 => s.regs.frame1.setWidth 32
  | 5 => s.regs.frame2.setWidth 32
  | 6 => s.regs.frame3.setWidth 32
  | 7 => s.regs.frame4.setWidth 32
  | 8 => s.regs.hum.setWidth 32
  | 9 => s.regs.temp.setWidth 32
  | 10 => s.regs.timeSec.setWidth 32
  | 11 => s.regs.timeMin.setWidth 32
  | 12 => s.regs.timeHour.setWidth 32
  | 13 => s.regs.timeDate.setWidth 32
  | 14 => s.regs.timeMonth.setWidth 32
  | 15 => s.regs.timeYear.setWidth 32
  | 16 => s.regs.rdata.setWidth 32
  | 17 => s.tick
  | _ => 0

/-- Does a read of register `n` now return an unspecified value (R249, U4)? -/
def readsFree (n : Nat) (s : State) : Bool :=
  s.flags.busy &&
    match running s with
    | some i => writesRegister i n
    | none => false

/-- Is `CKOK` unspecified now: `SW.READ` is running (U4)? -/
def ckokFree (s : State) : Bool := s.flags.busy && running s == some .swRead

/-- The host gets `w`. -/
def giveHost (w : Word32) (s : State) : State := { s with hostData := w }

/-- A free value is drawn. -/
def countDraw (s : State) : State := { s with draws := s.draws + 1 }

/-- `STATUS` as read: `BUSY` and `ILL` true, `CKOK` free while `SW.READ` runs (R249, U4). -/
def readStatus (s : State) : State :=
  if ckokFree s then
    let f := { s.flags with ckok := (Config.freeByte s.draws).getLsbD 0 }
    countDraw (giveHost ((statusByte f).setWidth 32) s)
  else giveHost (heldValue 1 s) s

/-- A read of `TICK`: a draw, not earlier than the value before it, modulo its period (R19). -/
def readTick (p : Params) (s : State) : State :=
  let s1 := idleTime p s
  giveHost s1.tick s1

/-- A host read of register `n`. The engine is not affected (R41): only `hostData`, and the counter of free values and
the time that has passed where the read is a draw. -/
def hostRead (p : Params) (n : Nat) (s : State) : State :=
  if n = 1 then readStatus s
  else if n = 17 then readTick p s
  else if readsFree n s then countDraw (giveHost ((Config.freeByte s.draws).setWidth 32) s)
  else giveHost (heldValue n s) s

/-- A bare host write of a word to `CMD`: dropped while `BUSY = 1`, else a legal command is accepted and an illegal one
sets `ILL` (R18, R63, R206 (5), R215). -/
def writeCmd (w : Word24) (s : State) : State :=
  if s.flags.busy then s
  else
    match decodeCmd w with
    | .ok i => acceptCommand w i s
    | .error _ => markIllegal s

/-- A bare host write of register `n`: only `CMD` takes it, others ignore it (R10). -/
def hostWrite (n : Nat) (w : Word24) (s : State) : State := if n = 0 then writeCmd w s else s

/-- Reset of the engine: every piece of its state at the value of R32, a running command ended at once (R230, R231).
The host and the environment are not the engine's: their fields stay (R232; Log 16). -/
def resetEngine (s : State) : State :=
  { State.reset with answers := s.answers, draws := s.draws, host := s.host, hostData := s.hostData }

/-- What becomes of a word taken: an instruction to run, or a step that is done. -/
inductive Taken where
  | run (i : Instr) (s : State)
  | done (s : State)
  deriving DecidableEq, Repr

/-- Carry out what was taken, with `exe` the meaning of an instruction. -/
def carryOut (exe : Instr → State → Result State) : Taken → Result State
  | .run i s => exe i s
  | .done s => .next s

/-- Take a command word: `BUSY` is tested before the opcode (R206 (5)). While busy the word is dropped (R215); an
undefined opcode sets `ILL` and does nothing else (R63). -/
def takeCommand (w : Word24) (s : State) : Taken :=
  if s.flags.busy then .done s
  else
    match decode (.cmd w) with
    | .ok i => .run i s
    | .error _ => .done (markIllegal s)

/-- Take a transaction laid in from outside: one that rule R70 names, while idle, since nothing is interleaved with a
running command (R50); anything else is dropped (Log 10, Log 11). -/
def takeProbe (address data : Byte) (s : State) : Taken :=
  if s.flags.busy then .done s
  else
    match decode (.bus address data) with
    | .ok i => .run i s
    | .error _ => .done s

/-- What a step carries out of a host's action (R10, R18, R75, R230, R249). -/
def hostStep (p : Params) (exe : Instr → State → Result State) (act : HostAct) (s : State) : Result State :=
  match act with
  | .wait => engineStep p s
  | .reset => .next (resetEngine s)
  | .read n => .next (hostRead p n s)
  | .write n w => .next (hostWrite n w s)
  | .issue w => carryOut exe (takeCommand w s)

/-- One step of an engine with the parameters `p` and `exe` the meaning of its instructions: a transaction laid in,
else the host's next action, else the engine's next micro-operation (R22; Log 1). -/
def stepWith (p : Params) (exe : Instr → State → Result State) (s : State) : Result State :=
  match s.probe with
  | some (a, d) => carryOut exe (takeProbe a d { s with probe := none })
  | none =>
    match s.host with
    | [] => engineStep p s
    | act :: rest => hostStep p exe act { s with host := rest }

/-- The engine idle with code word `c` the next thing it takes: a command word at the head of the host's list, an
address byte with its data byte laid in as a transaction (Log 13). -/
def placeCode (c : Code) (s : State) : State :=
  let s1 := { s with flags := { s.flags with busy := false }, seq := Seq.idle }
  match c with
  | .cmd w => { s1 with host := .issue w :: s1.host, probe := none }
  | .bus a d => { s1 with probe := some (a, d) }

end Sys2Proof.Machine
end

