-- ==== Sys2Proof/Machine/Wire.lean ====
section
/-! DEFINITION. What the wires carry, written from the wire formats of rules R64 to R68 (spec/30_encoding.md) and
not from the engine's loops: the events of a clock pulse, a byte, a transaction, the single-wire start, and
the bits of a frame in order of arrival. Claims about the wire are stated with these. -/

namespace Sys2Proof.Machine

open Sys2Proof

/-- One clock pulse: High, a phase, Low, a phase (R67, R140). -/
def pulseEvents (p : Params) : List Event :=
  [.drive .clk .high, .delay p.tClkPhaseUs, .drive .clk .low, .delay p.tClkPhaseUs]

/-- A byte the host writes: the line turned to Output, then bit `i` driven before pulse `i`, least significant
first (R46, R67). -/
def writeByteEvents (p : Params) (v : Byte) : List Event :=
  Event.mode .dat .output ::
    (List.range p.byteBits).flatMap fun i => Event.drive .dat (bitLevel v i) :: pulseEvents p

/-- A byte the host reads: the line turned to Input, then bit `i` sampled before pulse `i`, least significant first
(R46, R67). -/
def readByteEvents (p : Params) (r : Byte) : List Event :=
  Event.mode .dat .input ::
    (List.range p.byteBits).flatMap fun i => Event.sample .dat (bitLevel r i) :: pulseEvents p

/-- A write transaction: `CLK` Low, `CE` High, address byte, data byte, `CE` Low (R68). -/
def writeRegisterEvents (p : Params) (a v : Byte) : List Event :=
  [Event.drive .clk .low, .drive .ce .high] ++ writeByteEvents p a ++ writeByteEvents p v ++ [Event.drive .ce .low]

/-- A read transaction in which the chip put the byte `r` on the wire (R68). -/
def readRegisterEvents (p : Params) (a r : Byte) : List Event :=
  [Event.drive .clk .low, .drive .ce .high] ++ writeByteEvents p a ++ readByteEvents p r ++ [Event.drive .ce .low]

/-- The events of `SwStart`, exactly six (R66 rows 1 to 3, R110). -/
def swStartEvents (p : Params) : List Event :=
  [.mode .sw .output, .drive .sw .low, .delay (1000 * p.tResetLowMs), .drive .sw .high,
    .delay p.tStartHighUs, .mode .sw .input]

/-- A frame on the single wire: five bytes (R64). -/
structure Frame where
  b0 : Byte
  b1 : Byte
  b2 : Byte
  b3 : Byte
  b4 : Byte
  deriving DecidableEq, Repr

/-- Byte `k` of a frame. -/
def Frame.byte (f : Frame) (k : Nat) : Byte :=
  match k with
  | 0 => f.b0
  | 1 => f.b1
  | 2 => f.b2
  | 3 => f.b3
  | _ => f.b4

/-- Stream bit `n` in order of arrival: bit `7 - (n % 8)` of byte `n / 8` (R45, R64). -/
def streamBit (f : Frame) (n : Nat) : Level := bitLevel (f.byte (n / 8)) (7 - n % 8)

/-- The frame registers. -/
def frameOf (s : State) : Frame :=
  { b0 := s.regs.frame0, b1 := s.regs.frame1, b2 := s.regs.frame2, b3 := s.regs.frame3, b4 := s.regs.frame4 }

/-- Is the event a sample? -/
def isSample : Event → Bool
  | .sample _ _ => true
  | _ => false

/-- How many samples a list of events holds (R251). -/
def sampleCount (es : List Event) : Nat := es.countP isSample

/-- The stated delays of a list of events, summed, in microseconds (R251). -/
def delayTotal (es : List Event) : Nat :=
  match es with
  | [] => 0
  | .delay n :: es => n + delayTotal es
  | _ :: es => delayTotal es

/-- The line an event is on; a delay is on none. -/
def eventLine : Event → Option Line
  | .mode l _ => some l.line
  | .drive l _ => some l
  | .delay _ => none
  | .sample l _ => some l.line

/-- The events a run from `s` to `t` appended to the trace (R30). -/
def newEvents (s t : State) : List Event := t.trace.drop s.trace.length

end Sys2Proof.Machine
end

