-- ==== Sys2Proof/Machine/Peers.lean ====
section
/-! DEFINITION. The environment interface and the reference peers of spec/44_peer_models.md (R180 to R189). They are
no part of the engine and `step` never reads them (R180; Log 19): a claim that names one holds only against it. -/

namespace Sys2Proof.Machine

open Sys2Proof

/-- `Env(l, trace)`: an answer to each sample, from the whole trace so far (R181). -/
abbrev Env := BiLine → List Event → Level

/-- `EnvStuckHigh` (R182). -/
def envStuckHigh : Env := fun _ _ => .high

/-- `EnvStuckLow` (R182). -/
def envStuckLow : Env := fun _ _ => .low

/-- Every sample among the events, which follow the trace `tr`, was answered as `env` answers (R181). -/
def answeredBy (env : Env) (tr : List Event) (es : List Event) : Bool :=
  match es with
  | [] => true
  | e :: es =>
    (match e with
      | .sample l v => v == env l tr
      | _ => true) && answeredBy env (tr ++ [e]) es

/-- The answers of `EnvSensor` for one stream bit: `p` polls Low, High, the bit, `q` polls High, Low (R183). -/
def sensorBit (p q : Nat) (b : Level) : List Level :=
  List.replicate p Level.low ++ [Level.high, b] ++ List.replicate q Level.high ++ [Level.low]

/-- The answers of `EnvSensor(F, g, p, q)` to the samples of one `SW.READ`, in order (R183). -/
def sensorAnswers (f : Frame) (g : Nat) (p q : Nat → Nat) : List Level :=
  [Level.low, Level.high] ++ List.replicate g Level.high ++ [Level.low] ++
    (List.range 40).flatMap fun n => sensorBit (p n) (q n) (streamBit f n)

/-- How many samples of `SW` a trace holds since `SW` was last switched to Input (R183). -/
def swSamplesSinceInput (tr : List Event) : Nat :=
  tr.foldl (fun n e =>
    match e with
    | .mode .sw .input => 0
    | .sample .sw _ => n + 1
    | _ => n) 0

/-- The sensor's numbers are in their ranges (R183). -/
def SensorFits (par : Params) (g : Nat) (p q : Nat → Nat) : Prop :=
  g < par.nResp ∧ ∀ n, n < 40 → p n < par.nBitStart ∧ q n < par.nBitEnd

/-- `EnvSensor(F, g, p, q)`: it counts the samples of `SW` since the last `EvMode(SW, Input)`, so it answers every
handshake anew; what is no sample of its table, on `SW` after it or on `DAT`, is answered by `other` (R183). -/
def envSensor (other : Env) (f : Frame) (g : Nat) (p q : Nat → Nat) : Env := fun l tr =>
  match l with
  | .sw => ((sensorAnswers f g p q)[swSamplesSinceInput tr]?).getD (other .sw tr)
  | .dat => other .dat tr

/-- What the reference chip does with an address byte outside 0x80 to 0x8F. The spec says both: R185 "answers any bit
and changes nothing", U3 "refuse" (Log 19). -/
inductive Unlisted where
  | refuse
  | anyBit
  deriving DecidableEq, Repr

/-- The reference clock chip (R185): its eight registers, and what it follows on the wire. -/
structure Chip where
  /-- `reg[0..7]` -/
  reg : Vector Byte 8
  /-- what it does with an address byte it does not model -/
  unlisted : Unlisted
  /-- the level the host last drove on `DAT` -/
  datLevel : Level
  /-- the host is driving `DAT` -/
  datDriven : Bool
  /-- inside a transaction -/
  inTx : Bool
  /-- rising clock edges seen in this transaction -/
  edges : Nat
  /-- the address byte taken so far -/
  address : Byte
  /-- the data byte taken so far -/
  data : Byte
  /-- samples of `DAT` answered in this transaction -/
  reads : Nat
  deriving DecidableEq, Repr

/-- A chip holding `reg`, between transactions, that refuses an address byte it does not model (U3). -/
def Chip.holding (reg : Vector Byte 8) : Chip :=
  { reg := reg, unlisted := .refuse, datLevel := .low, datDriven := false, inTx := false, edges := 0, address := 0, data := 0, reads := 0 }

/-- The register an address byte names: bits 3 to 1 (R185). -/
def regIndex (a : Byte) : Fin 8 := (a.extractLsb' 1 3).toFin

/-- An address byte the reference chip models: 0x80 to 0x8F (R185). -/
def chipModels (a : Byte) : Bool := a.extractLsb' 4 4 == 8#4

/-- A read address: bit 0 is 1 (R69, R186, R187). -/
def isReadAddr (a : Byte) : Bool := a.getLsbD 0

/-- A level as bit `i` of a byte. -/
def atBit (v : Level) (i : Nat) : Byte := levelByte v <<< i

/-- A clock edge or a sample in the data byte of an address byte the chip does not model: refused, or nothing (R185, U3). -/
def Chip.atUnlisted (c : Chip) (next : Chip) : Option Chip :=
  match c.unlisted with
  | .refuse => none
  | .anyBit => some next

/-- A rising edge of `CLK` inside a transaction: an address bit, then a written data bit. None refuses the run: the
host drives `DAT` during the data byte of a read address, or does not during that of a write address, or the address
byte is one the chip refuses (R186, U3). -/
def Chip.rise (c : Chip) : Option Chip :=
  if c.edges < 8 then
    some { c with address := c.address ||| atBit c.datLevel c.edges, edges := c.edges + 1 }
  else if !chipModels c.address then c.atUnlisted { c with edges := c.edges + 1 }
  else if isReadAddr c.address then
    if c.datDriven then none else some { c with edges := c.edges + 1 }
  else if c.datDriven then
    some { c with data := c.data ||| atBit c.datLevel (c.edges - 8), edges := c.edges + 1 }
  else none

/-- The end of a transaction: a complete write is taken unless the chip is locked; the control register always is
(R186). -/
def Chip.commit (c : Chip) : Chip :=
  let done := { c with inTx := false }
  if c.edges == 16 && chipModels c.address && !isReadAddr c.address then
    if regIndex c.address = 7 then { done with reg := c.reg.set 7 c.data }
    else if c.reg[7].getLsbD 7 then done
    else { done with reg := c.reg.set (regIndex c.address) c.data }
  else done

/-- A sample of `DAT` that read `v`: the chip answers bit `j` of the register at the `j`-th sample of a read address
(R187); for a write address it has no answer (R186); for one it does not model it refuses or answers any bit (R185, U3);
outside the data byte the line is nobody's. -/
def Chip.sampled (c : Chip) (v : Level) : Option Chip :=
  if c.inTx && decide (8 ≤ c.edges) then
    if !chipModels c.address then c.atUnlisted c
    else if isReadAddr c.address && v == bitLevel c.reg[regIndex c.address] c.reads then
      some { c with reads := c.reads + 1 }
    else none
  else some c

/-- The chip follows one event of the trace; none: the run is not one against this chip. -/
def Chip.event (c : Chip) (e : Event) : Option Chip :=
  match e with
  | .mode .dat m => some { c with datDriven := m == .output }
  | .drive .dat v => some { c with datLevel := v }
  | .drive .ce .high =>
    if c.inTx then some c
    else some { c with inTx := true, edges := 0, address := 0, data := 0, reads := 0 }
  | .drive .ce .low => if c.inTx then some c.commit else some c
  | .drive .clk .high => if c.inTx then c.rise else some c
  | .sample .dat v => c.sampled v
  | _ => some c

/-- The static reference chip follows the events of a run (R185 to R187, R189). -/
def Chip.follow (c : Chip) : List Event → Option Chip
  | [] => some c
  | e :: es =>
    match c.event e with
    | some c1 => c1.follow es
    | none => none

/-- The days of a month, February by the two digits of the year (Log 19). -/
def monthDays (month year : Nat) : Nat :=
  if month = 2 then (if year % 4 = 0 then 29 else 28)
  else if month = 4 ∨ month = 6 ∨ month = 9 ∨ month = 11 then 30
  else 31

/-- A calendar time in BCD, the unnamed seventh field any valid BCD byte (R71, R189; Log 19). -/
def calendarTime (sec min hour date month f7 year : Byte) : Bool :=
  [sec, min, hour, date, month, f7, year].all validBcd && decide ((bcdDec sec).toNat ≤ 59)
    && decide ((bcdDec min).toNat ≤ 59) && decide ((bcdDec hour).toNat ≤ 23)
    && decide (1 ≤ (bcdDec month).toNat ∧ (bcdDec month).toNat ≤ 12)
    && decide (1 ≤ (bcdDec date).toNat ∧ (bcdDec date).toNat ≤ monthDays (bcdDec month).toNat (bcdDec year).toNat)

/-- The first list comes before the second, the leading numbers deciding first. -/
def comesBefore : List Nat → List Nat → Bool
  | a :: as, b :: bs => decide (a < b) || (a == b && comesBefore as bs)
  | _, _ => false

/-- The numbers of a calendar time, the slowest first. -/
def timeNumbers (sec min hour date month year : Byte) : List Nat :=
  [year, month, date, hour, min, sec].map fun b => (bcdDec b).toNat

/-- What happens to the ticking chip: an event, or, between two transactions, its time replaced; `turned` says that the
two digits of the year turned over in between, as from 99 to 00 (R189, V38). -/
inductive ChipInput where
  | event (e : Event)
  | tick (sec min hour date month f7 year : Byte) (turned : Bool)
  deriving DecidableEq, Repr

/-- The chip's registers hold a calendar time. -/
def Chip.holdsTime (c : Chip) : Bool :=
  calendarTime c.reg[0] c.reg[1] c.reg[2] c.reg[3] c.reg[4] c.reg[5] c.reg[6]

/-- The ticking variant: between transactions `reg[0..6]` may be replaced by any later calendar time in BCD (R189). What a
chip whose registers hold no calendar time counts to is left free (Log 19). -/
def Chip.input (c : Chip) : ChipInput → Option Chip
  | .event e => c.event e
  | .tick sec min hour date month f7 year turned =>
    if !c.inTx && calendarTime sec min hour date month f7 year
        && (turned || !c.holdsTime
          || comesBefore (timeNumbers c.reg[0] c.reg[1] c.reg[2] c.reg[3] c.reg[4] c.reg[6])
            (timeNumbers sec min hour date month year)) then
      some { c with reg := #v[sec, min, hour, date, month, f7, year, c.reg[7]] }
    else none

/-- The ticking reference chip over a list of inputs (R189). -/
def Chip.followTicking (c : Chip) : List ChipInput → Option Chip
  | [] => some c
  | i :: is =>
    match c.input i with
    | some c1 => c1.followTicking is
    | none => none

end Sys2Proof.Machine
end

