-- ==== Sys2Proof/Safety.lean ====
section
/-! DEFINITION. What a safe state and a safe trace are: the invariant every step keeps (R14, R22, R98, R118, R151;
the data ranges of R13 and R15), and the mode rule on a trace (R98, R240). -/

namespace Sys2Proof.Machine

open Sys2Proof

/-- `CE` and `CLK` both Low: no transaction open (R151). -/
def busRests (s : State) : Bool := s.pins.ceLatch == .low && s.pins.clkLatch == .low

/-- `SW` released with its latch High, as it is outside `SW_START` (R14, R32, R118). -/
def swReleased (s : State) : Bool := s.pins.swMode == .input && s.pins.swLatch == .high

/-- `SW` during `SW_START`, before each micro-operation (R110). -/
def startLineOk (k : StartOp) (s : State) : Bool :=
  match k with
  | .toOutput => swReleased s
  | .driveLow => s.pins.swMode == .output && s.pins.swLatch == .high
  | .holdLow => s.pins.swMode == .output && s.pins.swLatch == .low
  | .driveHigh => s.pins.swMode == .output && s.pins.swLatch == .low
  | .holdHigh => s.pins.swMode == .output && s.pins.swLatch == .high
  | .release => s.pins.swMode == .output && s.pins.swLatch == .high

/-- `CLK` before each micro-operation of a bit: High between its rise and its fall (R140). -/
def clkOk (k : BitOp) (s : State) : Bool :=
  match k with
  | .highTime => s.pins.clkLatch == .high
  | .clockLow => s.pins.clkLatch == .high
  | _ => s.pins.clkLatch == .low

/-- The mode switch stands before the first bit of a byte only (R141, R142). -/
def turnOk (k : BitOp) (s : State) : Bool := k != .turn || s.seq.bit == 0

/-- `SEQ.cmd` is a clock command and `SEQ.step` names one of its transactions (R21). -/
def inTransaction (p : Params) (s : State) : Bool := (currentTx p s).isSome

/-- The running transaction is a read. -/
def inRead (p : Params) (s : State) : Bool :=
  match currentTx p s with
  | some (.read _) => true
  | _ => false

/-- The command the engine is running is a decoder command. -/
def inBcd (s : State) : Bool :=
  match running s with
  | some (.bcdDec _) => true
  | _ => false

/-- The lines and the sequencer agree with the phase (R22, R98, R118, R151). -/
def phaseOk (p : Params) (s : State) : Bool :=
  match s.seq.phase with
  | .idle => busRests s && swReleased s
  | .swStart k => running s == some .swRead && busRests s && startLineOk k s
  | .swCheck _ => running s == some .swRead && busRests s && swReleased s
  | .swBitWaitHigh => running s == some .swRead && busRests s && swReleased s
  | .swBitDelay => running s == some .swRead && busRests s && swReleased s
  | .swBitSample => running s == some .swRead && busRests s && swReleased s
  | .swBitWaitLow => running s == some .swRead && busRests s && swReleased s
  | .swValidate => running s == some .swRead && busRests s && swReleased s
  | .rtcBegin _ => inTransaction p s && busRests s && swReleased s
  | .rtcWrBit k =>
    inTransaction p s && (outByte p s).isSome && s.pins.ceLatch == .high && clkOk k s && turnOk k s
      && (k == .turn || s.pins.datMode == .output) && swReleased s
  | .rtcRdBit k =>
    inRead p s && s.seq.txByte == .data && s.pins.ceLatch == .high && clkOk k s && turnOk k s
      && (k == .turn || s.pins.datMode == .input) && swReleased s
  | .rtcEnd =>
    inTransaction p s && s.seq.txByte == .data && s.pins.ceLatch == .high && s.pins.clkLatch == .low
      && swReleased s
  | .bcd => inBcd s && busRests s && swReleased s

/-- A response code (R73). -/
def isPresCode (p : Params) (c : Byte) : Bool :=
  c == p.presTimeout || c == p.presNone || c == p.presOk || c == p.presErr

/-- The code being built is one, once the response check has set it (R111). -/
def respOk (p : Params) (s : State) : Bool :=
  match s.seq.phase with
  | .swCheck .waitAnswer => true
  | .swCheck _ => isPresCode p s.seq.resp
  | _ => true

/-- `PRES` holds a code (R15); every `TIME_` register is in 0 to 165 (R13). -/
def dataOk (p : Params) (s : State) : Bool :=
  isPresCode p s.regs.pres && respOk p s && timeFields.all fun f => decide ((timeReg f s).toNat ≤ 165)

/-- `BUSY` is 1 exactly while a command runs (R17, R22). -/
def busyOk (s : State) : Bool := s.flags.busy == (s.seq.phase != .idle)

/-- The invariant, with the parameters named. -/
def invWith (p : Params) (s : State) : Bool := busyOk s && phaseOk p s && dataOk p s

/-- The invariant of the machine. -/
abbrev State.Inv (s : State) : Prop := invWith Config.params s = true

/-- The mode rule on a list of events, from given modes of `SW` and `DAT`: a bidirectional line is driven only in Output
mode and sampled only in Input mode (R98, R240). -/
def modesRespected (sw dat : Mode) : List Event → Bool
  | [] => true
  | .mode .sw m :: es => modesRespected m dat es
  | .mode .dat m :: es => modesRespected sw m es
  | .drive .sw _ :: es => sw == .output && modesRespected sw dat es
  | .drive .dat _ :: es => dat == .output && modesRespected sw dat es
  | .sample .sw _ :: es => sw == .input && modesRespected sw dat es
  | .sample .dat _ :: es => dat == .input && modesRespected sw dat es
  | _ :: es => modesRespected sw dat es

/-- The clock pulses and enable edges of a list of events, from a given level of `CE`: every rise of `CLK` inside a
transaction, every transaction exactly 16 of them (R68, R151). `n` is none outside a transaction. -/
def framed (n : Option Nat) : List Event → Bool
  | [] => n == none
  | .drive .ce .high :: es => n == none && framed (some 0) es
  | .drive .ce .low :: es => n == some 16 && framed none es
  | .drive .clk .high :: es =>
    match n with
    | some k => framed (some (k + 1)) es
    | none => false
  | _ :: es => framed n es

end Sys2Proof.Machine
end

