-- ==== Sys2Proof/Certificates/Slice0/Obligations.lean ====
section
/-! DEFINITION. The statements for the provers. The helpers under Sys2Proof.Claims say what several statements share. -/

namespace Sys2Proof.Claims

open Sys2Proof Sys2Proof.Machine

/-- The flags after a legal command that does not touch `CKOK` (R18). -/
def doneFlags (s : State) : Flags := { busy := false, ckok := s.flags.ckok, ill := false }

/-- The pins after a three-wire operation: `DAT` in mode `m` with latch `v`, `CLK` and `CE` Low, `SW` as before. -/
def restedPins (m : Mode) (v : Level) (s : State) : Pins :=
  { s.pins with datMode := m, datLatch := v, clkLatch := .low, ceLatch := .low }

/-- What comes from outside the engine is untouched: what the host does next, what it last read, a transaction laid in. -/
def HostKept (s t : State) : Prop := t.host = s.host ∧ t.hostData = s.hostData ∧ t.probe = s.probe

/-- The level that is not `v`. -/
def other : Level → Level
  | .low => .high
  | .high => .low

/-- Only the trace, the answers still to come, the draws and the time may differ. -/
def OnlyListened (s t : State) : Prop :=
  t.flags = s.flags ∧ t.regs = s.regs ∧ t.pins = s.pins ∧ t.seq = s.seq ∧ HostKept s t

/-- The six rows of rule R111's table: the answers a response check takes, and the code it returns. -/
inductive Handshake (p : Params) : List Level → Byte → Prop where
  | noSensor (g : Nat) (h : g < p.nResp) : Handshake p ([Level.high] ++ List.replicate g Level.high ++ [Level.low]) p.presNone
  | noSensorTimeout : Handshake p ([Level.high] ++ List.replicate p.nResp Level.high) p.presTimeout
  | ok (g : Nat) (h : g < p.nResp) :
      Handshake p ([Level.low, Level.high] ++ List.replicate g Level.high ++ [Level.low]) p.presOk
  | okTimeout : Handshake p ([Level.low, Level.high] ++ List.replicate p.nResp Level.high) p.presTimeout
  | error (g : Nat) (h : g < p.nResp) :
      Handshake p ([Level.low, Level.low] ++ List.replicate g Level.high ++ [Level.low]) p.presErr
  | errorTimeout : Handshake p ([Level.low, Level.low] ++ List.replicate p.nResp Level.high) p.presTimeout

/-- The events of a response check that takes these answers: the 80 µs wait stands only after a Low first sample
(R111). -/
def checkEvents (p : Params) : List Level → List Event
  | .high :: rest => [Event.delay p.tRespWaitUs, .sample .sw .high] ++ rest.map (Event.sample .sw)
  | .low :: rest => [Event.delay p.tRespWaitUs, .sample .sw .low, .delay p.tRespHighUs] ++ rest.map (Event.sample .sw)
  | [] => []

/-- The answers of one bit whose waits are both reached: `m` polls Low, High, the bit, `n` polls High, Low (R112). -/
def bitAnswers (m n : Nat) (b : Level) : List Level :=
  List.replicate m Level.low ++ [Level.high, b] ++ List.replicate n Level.high ++ [Level.low]

/-- The events of such a bit (R112). -/
def bitEvents (p : Params) (m n : Nat) (b : Level) : List Event :=
  List.replicate m (Event.sample .sw .low) ++ [Event.sample .sw .high, .delay p.tBitSampleUs, .sample .sw b] ++
    List.replicate n (Event.sample .sw .high) ++ [Event.sample .sw .low]

/-- The answers of the first `k` bits of byte `b`, most significant first (R113). -/
def leadingBits (b : Byte) (k : Nat) (m n : Nat → Nat) : List Level :=
  (List.range k).flatMap fun j => bitAnswers (m j) (n j) (bitLevel b (7 - j))

/-- The answers of the forty bits of frame `f` in stream order (R64, R183). -/
def frameAnswers (f : Frame) (m n : Nat → Nat) : List Level :=
  (List.range 40).flatMap fun k => bitAnswers (m k) (n k) (streamBit f k)

/-- A byte as the eight answers a chip gives for it, least significant bit first (R46, R187). -/
def byteAnswers (r : Byte) : List Level := (List.range 8).map (bitLevel r)

/-- The write rows of rule R70: instruction and address byte. -/
def writeRows (v : Byte) : List (Instr × Byte) :=
  [(.aSecW v, 0x80), (.aMinW v, 0x82), (.aHourW v, 0x84), (.aDateW v, 0x86), (.aMonthW v, 0x88),
    (.aF7W v, 0x8A), (.aYearW v, 0x8C), (.aWpW v, 0x8E)]

/-- The read rows of rule R70: instruction and address byte. -/
def readRows : List (Instr × Byte) :=
  [(.aSecR, 0x81), (.aMinR, 0x83), (.aHourR, 0x85), (.aDateR, 0x87), (.aMonthR, 0x89), (.aF7R, 0x8B),
    (.aYearR, 0x8D), (.aWpR, 0x8F)]

/-- The address and value pairs of `RTC.INIT`, in order, written out from rule R149. -/
def initPairs (p : Params) : List (Byte × Byte) :=
  if p.seedEnable then
    [(0x8E, p.wpUnlock), (0x80, p.seed0), (0x82, p.seed1), (0x84, p.seed2), (0x86, p.seed3), (0x88, p.seed4),
      (0x8A, p.seed5), (0x8C, p.seed6), (0x8E, p.wpLock)]
  else [(0x8E, p.wpUnlock), (0x8E, p.wpLock)]

/-- The command words' opcodes (R61). -/
def legalOps : List Byte := [0x01, 0x10, 0x11, 0x12, 0x13, 0x20]

/-- The engine's own fields, all but the time, are as before; the trace too. -/
def EngineKept (s t : State) : Prop :=
  t.flags = s.flags ∧ t.regs = s.regs ∧ t.pins = s.pins ∧ t.hidden = s.hidden ∧ t.seq = s.seq ∧
    t.trace = s.trace ∧ t.answers = s.answers

/-- The host acts next, `act`, and `rest` is what it does after that. -/
def HostNext (s : State) (act : HostAct) (rest : List HostAct) : Prop := s.probe = none ∧ s.host = act :: rest

/-- The next step is reset. -/
def ResetNext (s : State) : Prop := ∃ rest, HostNext s .reset rest

/-- The six commands of R61, as instructions. -/
def IsCommand (i : Instr) : Prop :=
  i = .swRead ∨ (∃ a b, i = .rtcWrreg a b) ∨ (∃ a, i = .rtcRdreg a) ∨ i = .rtcInit ∨ i = .rtcGettime ∨
    ∃ b, i = .bcdDec b

/-- The chip's registers after a write of `v` to address `a` (R186). -/
def chipAfterWrite (reg : Vector Byte 8) (a v : Byte) : Vector Byte 8 :=
  if regIndex a = 7 then reg.set 7 v
  else if reg[7].getLsbD 7 then reg
  else reg.set (regIndex a) v

end Sys2Proof.Claims

open Sys2Proof Sys2Proof.Machine Sys2Proof.Claims

/-! ### Encoding -/

/-- Decoding what the encoder writes gives the instruction back, for every row of the table and every operand value. -/
def Obligations.DecodeOfEncodeIsIdentity : Prop := ∀ i : Instr, i.wf = true → decode (encode i) = .ok i

/-- A code word is one the encoder writes for what it decodes to exactly when it is canonical: defined, ignored fields 0
(R61, R75). -/
def Obligations.CanonicalWordsAreTheEncoders : Prop :=
  ∀ c : Code, c.wf = true ↔ ∃ i, decode c = .ok i ∧ encode i = c

/-- The decoder looks at the opcode only: every operand pair of a listed opcode decodes to that row, with ignored fields
dropped; every other opcode is rejected by name (R61, R63). The opcode numbers are the spec's decision D4. -/
def Obligations.DecoderFollowsTheOpcodeTable : Prop :=
  ∀ op a b : Byte, decode (.cmd (cmdWord op a b)) =
    if op = 0x01 then .ok .swRead
    else if op = 0x10 then .ok (.rtcWrreg a b)
    else if op = 0x11 then .ok (.rtcRdreg a)
    else if op = 0x12 then .ok .rtcInit
    else if op = 0x13 then .ok .rtcGettime
    else if op = 0x20 then .ok (.bcdDec b)
    else .error (.undefinedOpcode op)

/-- The sixteen address bytes, each decoding to its row, the data byte carried by the write rows only; no other byte is one;
a read address is its write address with bit 0 set (R69, R70). -/
def Obligations.AddressBytesDecodeByTheirTable : Prop :=
  (∀ v : Byte, (∀ r ∈ writeRows v, decode (.bus r.2 v) = .ok r.1) ∧ ∀ r ∈ readRows, decode (.bus r.2 v) = .ok r.1) ∧
  (∀ a v : Byte, (a.toNat < 0x80 ∨ 0x8F < a.toNat) → decode (.bus a v) = .error (.unnamedAddress a)) ∧
  ∀ f : ClockField, f.readAddr = f.writeAddr ||| 1

/-- The six example words of rule R75 and two address bytes, written out from the spec, decode to what they stand for. -/
def Obligations.SpecExampleWordsDecode : Prop :=
  decodeTableWord 24 0x010000 = some .swRead ∧ decodeTableWord 24 0x108E00 = some (.rtcWrreg 0x8E 0x00) ∧
  decodeTableWord 24 0x118100 = some (.rtcRdreg 0x81) ∧ decodeTableWord 24 0x120000 = some .rtcInit ∧
  decodeTableWord 24 0x130000 = some .rtcGettime ∧ decodeTableWord 24 0x200045 = some (.bcdDec 0x45) ∧
  decodeTableWord 8 0x80 = some (.aSecW 0) ∧ decodeTableWord 8 0x8F = some .aWpR ∧
  decodeTableWord 24 0x140000 = none ∧ decodeTableWord 8 0x90 = none

/-! ### Fetching and accepting a command -/

/-- An issued command word that decodes runs as `exec` of its instruction, in the state with the word consumed; so does a
transaction laid in, and a word put where the next step takes it. The issuing host and the laid-in transaction are the model's
(Log 1, Log 10, Log 13). -/
def Obligations.StepRunsTheDecodedInstruction : Prop :=
  (∀ (s : State) (w : Word24) (rest : List HostAct) (i : Instr), HostNext s (.issue w) rest → s.flags.busy = false →
    decode (.cmd w) = .ok i → step s = exec i { s with host := rest }) ∧
  (∀ (s : State) (a d : Byte) (i : Instr), s.probe = some (a, d) → s.flags.busy = false →
    decode (.bus a d) = .ok i → step s = exec i { s with probe := none }) ∧
  ∀ (s : State) (nbits w : Nat) (i : Instr), s.flags.busy = false → s.seq = Seq.idle → s.probe = none →
    decodeTableWord nbits w = some i → step (s.withFetchWord nbits w) = exec i s

/-- The host issues the six commands and nothing else: a word it issues while idle runs one of them or is illegal; no step lays in a
transaction, so from a state without one none is ever run by itself (R9, R61; the spec's decision D6). -/
def Obligations.TheHostIssuesOnlyTheSixCommands : Prop :=
  (∀ (s : State) (w : Word24) (rest : List HostAct), HostNext s (.issue w) rest → s.flags.busy = false →
    (∃ i, IsCommand i ∧ step s = exec i { s with host := rest }) ∨
    step s = .next { s with host := rest, flags := { s.flags with ill := true } }) ∧
  ∀ s t : State, step s = .next t → t.probe = none

/-- A word with an unlisted opcode, written while idle, sets `ILL` and changes nothing else; a listed opcode is legal with
every operand (R63; `ILL` is the spec's decision D5). -/
def Obligations.IllegalWordOnlySetsIll : Prop :=
  (∀ (s : State) (w : Word24) (rest : List HostAct),
    HostNext s (.issue w) rest ∨ HostNext s (.write 0 w) rest → opField w ∉ legalOps →
    (s.flags.busy = false → step s = .next { s with host := rest, flags := { s.flags with ill := true } }) ∧
    (s.flags.busy = true → step s = .next { s with host := rest })) ∧
  ∀ w : Word24, opField w ∈ legalOps → ∃ i, decode (.cmd w) = .ok i

/-- Any command word that comes while `BUSY = 1`, written bare or issued, is dropped: no flag, no queue, no event, the running command
undisturbed (R215). -/
def Obligations.BusyEngineDropsEveryWord : Prop :=
  ∀ (s : State) (w : Word24) (rest : List HostAct), s.flags.busy = true →
    HostNext s (.write 0 w) rest ∨ HostNext s (.issue w) rest → step s = .next { s with host := rest }

/-- A bare write of a legal word while idle: `ILL` falls, `BUSY` rises, the sequencer stands at the command's first phase with
the word accepted, nothing else changes (R18, R22). -/
def Obligations.BareWriteAcceptsTheCommand : Prop :=
  ∀ (s : State) (w : Word24) (rest : List HostAct) (i : Instr), HostNext s (.write 0 w) rest →
    s.flags.busy = false → decode (.cmd w) = .ok i →
    ∃ q : Seq, step s = .next { s with host := rest, flags := { s.flags with busy := true, ill := false }, seq := q } ∧
      q.cmd = w ∧
      q.phase = (if opField w = 0x01 then .swStart .toOutput else if opField w = 0x20 then .bcd
        else .rtcBegin .clockLow)

/-- Running the phase table micro-operation by micro-operation, from the accepted command to the fall of `BUSY`, ends in
exactly the state the command's meaning gives, and `BUSY` is 1 at every moment before (R18, R22, R110 to R117, R140 to
R150). So every command ends (R250). -/
def Obligations.PhaseTableImplementsCommands : Prop :=
  ∀ (s : State) (w : Word24) (i : Instr), decodeCmd w = .ok i →
    ∃ (n : Nat) (t : State), exec i s = .next t ∧ engineRun Config.params n (acceptCommand w i s) = .next t ∧
      t.flags.busy = false ∧
      ∀ m, m < n → ∃ u, engineRun Config.params m (acceptCommand w i s) = .next u ∧ u.flags.busy = true

/-! ### Invariants -/

/-- After reset the invariant holds. -/
def Obligations.ResetMeetsTheInvariant : Prop := State.reset.Inv

/-- From every state that meets the invariant a step gives a next state, never a refusal, and keeps the invariant: lines and
sequencer agree with the phase, no wrong-mode access is reachable, `CE` and `CLK` rest Low between commands, `SW` is
released outside its start pulse, `PRES` is a code, the time registers stay in 0 to 165. -/
def Obligations.EveryStepGoesOnAndKeepsTheInvariant : Prop :=
  ∀ s : State, s.Inv → ∃ t, step s = .next t ∧ t.Inv

/-- What the table of reset values says of the registers, the flags, the sequencer, the lines and the trace (R32, values of
the spec's decision D14). -/
def Obligations.ResetLeavesTheTabledValues : Prop :=
  State.reset.flags = { busy := false, ckok := false, ill := false } ∧
  (∀ n, 1 ≤ n → n ≤ 16 → heldValue n State.reset = 0) ∧
  State.reset.seq.phase = .idle ∧ State.reset.trace = [] ∧
  modeOf .sw State.reset = .input ∧ latchOf .sw State.reset = .high ∧
  modeOf .dat State.reset = .input ∧ latchOf .dat State.reset = .low ∧
  modeOf .clk State.reset = .output ∧ latchOf .clk State.reset = .low ∧
  modeOf .ce State.reset = .output ∧ latchOf .ce State.reset = .low

/-- Reset, whatever the engine was doing: its registers, flags, lines, sequencer and trace are those after reset, in one step
(R230, R231). That the host's list, the answers still to come and the draws stay is the model's choice (Log 16). -/
def Obligations.ResetEndsACommandAtOnce : Prop :=
  ∀ (s : State) (rest : List HostAct), HostNext s .reset rest →
    ∃ t, step s = .next t ∧ t.flags = State.reset.flags ∧ t.regs = State.reset.regs ∧
      t.pins = State.reset.pins ∧ t.seq.phase = .idle ∧ t.trace = [] ∧ t.host = rest ∧ t.answers = s.answers

/-- Nothing but an accepted frame and reset writes `HUM` and `TEMP` (R12). -/
def Obligations.OnlyAnAcceptedFrameWritesTheReading : Prop :=
  ∀ s t : State, step s = .next t → ¬ ResetNext s → (t.regs.hum ≠ s.regs.hum ∨ t.regs.temp ≠ s.regs.temp) →
    t.flags.ckok = true ∧ frameAccepted t = true ∧ t.regs.hum = t.regs.frame0 ∧ t.regs.temp = t.regs.frame2

/-- Only `RTC.GETTIME` and reset write the time registers (R13): if a step changes one, it ran the whole command, or it was
the end of one of its transactions. -/
def Obligations.OnlyGettimeWritesTheTime : Prop :=
  ∀ s t : State, step s = .next t → ¬ ResetNext s → (∃ f, timeReg f t ≠ timeReg f s) →
    (∃ w rest, HostNext s (.issue w) rest ∧ decode (.cmd w) = .ok .rtcGettime) ∨
    (s.seq.phase = .rtcEnd ∧ running s = some .rtcGettime)

/-- A step that is not reset only appends to the trace: no event is reordered, dropped or changed afterwards (R52). -/
def Obligations.TraceOnlyGrows : Prop :=
  ∀ s t : State, step s = .next t → ¬ ResetNext s → ∃ es, t.trace = s.trace ++ es

/-- The parameters of the machine have the stated defaults, and the OPEN budgets are at least 1 (R6; the codes are the spec's decision
D9). The literals are the source's, which the spec calls unaudited. -/
def Obligations.ParametersHaveTheStatedDefaults : Prop :=
  Config.params.tResetLowMs = 18 ∧ Config.params.tStartHighUs = 20 ∧ Config.params.tRespWaitUs = 40 ∧
  Config.params.tRespHighUs = 80 ∧ Config.params.tBitSampleUs = 40 ∧ Config.params.tClkPhaseUs = 1 ∧
  1 ≤ Config.params.nResp ∧ 1 ≤ Config.params.nBitStart ∧ 1 ≤ Config.params.nBitEnd ∧
  Config.params.presTimeout = 0x00 ∧ Config.params.presNone = 0x00 ∧ Config.params.presOk = 0x01 ∧
  Config.params.presErr = 0xFF ∧ Config.params.frameBytes = 5 ∧ Config.params.byteBits = 8 ∧
  Config.params.tickBits = 32 ∧ Config.params.wpUnlock = 0x00 ∧ Config.params.wpLock = 0x80 ∧
  Config.params.wf = true

/-! ### Line controller and timer -/

/-- `SetOutput`, `SetInput` and `Drive` write exactly the mode or the latch they name and emit their event; the latch survives
a mode switch (R90, R91, R92). -/
def Obligations.LineOperationsWriteOneLine : Prop :=
  ∀ (s : State) (v : Level),
    setOutput .sw s = { s with pins := { s.pins with swMode := .output }, trace := s.trace ++ [Event.mode .sw .output] } ∧
    setOutput .dat s = { s with pins := { s.pins with datMode := .output }, trace := s.trace ++ [Event.mode .dat .output] } ∧
    setInput .sw s = { s with pins := { s.pins with swMode := .input }, trace := s.trace ++ [Event.mode .sw .input] } ∧
    setInput .dat s = { s with pins := { s.pins with datMode := .input }, trace := s.trace ++ [Event.mode .dat .input] } ∧
    drive .clk v s = .next { s with pins := { s.pins with clkLatch := v }, trace := s.trace ++ [Event.drive .clk v] } ∧
    drive .ce v s = .next { s with pins := { s.pins with ceLatch := v }, trace := s.trace ++ [Event.drive .ce v] } ∧
    (s.pins.swMode = .output →
      drive .sw v s = .next { s with pins := { s.pins with swLatch := v }, trace := s.trace ++ [Event.drive .sw v] }) ∧
    (s.pins.datMode = .output →
      drive .dat v s = .next { s with pins := { s.pins with datLatch := v }, trace := s.trace ++ [Event.drive .dat v] })

/-- A drive of a line in Input mode and a sample of a line in Output mode have no meaning: the model refuses (R98, U1); a
sample in Input mode goes on with the environment's answer and changes no engine state (R93). -/
def Obligations.WrongModeAccessIsRefused : Prop :=
  ∀ (s : State) (l : BiLine) (v : Level),
    (modeOf l.line s = .input → drive l.line v s = .refused .driveOnInputLine) ∧
    (modeOf l.line s = .output → sample l s = .refused .sampleOnOutputLine) ∧
    (modeOf l.line s = .input → ∃ (r : Level) (t : State), sample l s = .next (r, t) ∧ OnlyListened s t ∧
      t.hidden = s.hidden ∧ t.tick = s.tick ∧ t.trace = s.trace ++ [Event.sample l r] ∧
      ∀ rest, s.answers = v :: rest → r = v ∧ t.answers = rest)

/-- A delay of `n` microseconds records itself, moves `TICK` by at least `n` modulo 2^32 (for `n` below 2^32, `TICK_BITS` at its
default), and changes nothing else; a millisecond delay is a thousand times as long (R94, R95, R97). -/
def Obligations.DelayIsALowerBound : Prop :=
  ∀ (p : Params) (n : Nat) (s : State),
    (p.tickBits = 32 → n < 2 ^ 32 → n ≤ ((delayUs p n s).tick - s.tick).toNat) ∧
    (delayUs p n s).trace = s.trace ++ [Event.delay n] ∧ OnlyListened s (delayUs p n s) ∧
    (delayUs p n s).hidden = s.hidden ∧ (delayUs p n s).answers = s.answers ∧
    delayMs p n s = delayUs p (1000 * n) s

/-- The spin-wait: reached at the first poll that reads the wanted level, exhausted after exactly `N` polls that all read the
other; one sample event a poll, no delay; no register, flag, line, hidden or sequencer field changes (R96). Of the time that
passes between polls it says nothing. -/
def Obligations.SpinUntilPollsAtMostItsBudget : Prop :=
  ∀ (l : BiLine) (v : Level) (budget : Nat) (rest : List Level) (s : State),
    (∀ k, k < budget → s.answers = List.replicate k (other v) ++ v :: rest →
      (spinUntil l v budget s).1 = .reached ∧ (spinUntil l v budget s).2.answers = rest ∧
        (spinUntil l v budget s).2.trace =
          s.trace ++ List.replicate k (Event.sample l (other v)) ++ [Event.sample l v] ∧
        OnlyListened s (spinUntil l v budget s).2 ∧ (spinUntil l v budget s).2.hidden = s.hidden) ∧
    (s.answers = List.replicate budget (other v) ++ rest →
      (spinUntil l v budget s).1 = .exhausted ∧ (spinUntil l v budget s).2.answers = rest ∧
        (spinUntil l v budget s).2.trace = s.trace ++ List.replicate budget (Event.sample l (other v)) ∧
        OnlyListened s (spinUntil l v budget s).2 ∧ (spinUntil l v budget s).2.hidden = s.hidden)

/-! ### The single-wire half -/

/-- `SwStart`: exactly the six events, then `SW` is Input with its latch High; no register, flag or other line changes (R110). -/
def Obligations.SwStartEmitsSixEvents : Prop :=
  ∀ (p : Params) (s : State),
    (swStart p s).trace = s.trace ++
      [Event.mode .sw .output, .drive .sw .low, .delay (1000 * p.tResetLowMs), .drive .sw .high, .delay p.tStartHighUs,
        .mode .sw .input] ∧
    (swStart p s).pins = { s.pins with swMode := .input, swLatch := .high } ∧
    (swStart p s).regs = s.regs ∧ (swStart p s).flags = s.flags ∧ (swStart p s).hidden = s.hidden ∧
    (swStart p s).seq = s.seq ∧ (swStart p s).answers = s.answers ∧ HostKept s (swStart p s)

/-- The response check, every row of rule R111's table: the code, the samples it takes and the events it emits; the guard runs
on all paths, its timeout overrides the code; no register is written. -/
def Obligations.ResponseCheckFollowsItsTable : Prop :=
  ∀ (p : Params) (s : State) (hs rest : List Level) (code : Byte), Handshake p hs code → s.answers = hs ++ rest →
    (swCheckResponse p s).1 = code ∧ (swCheckResponse p s).2.answers = rest ∧
    (swCheckResponse p s).2.trace = s.trace ++ checkEvents p hs ∧ OnlyListened s (swCheckResponse p s).2

/-- One bit: read when both waits are reached, `Abort` when the first is exhausted (nothing sampled) or the second (the sampled
bit thrown away); no register is written (R112). -/
def Obligations.ReadBitSamplesOrAborts : Prop :=
  ∀ (p : Params) (s : State) (m n : Nat) (b : Level) (rest : List Level),
    (m < p.nBitStart → n < p.nBitEnd → s.answers = bitAnswers m n b ++ rest →
      (swReadBit p s).1 = some b ∧ (swReadBit p s).2.answers = rest ∧
        (swReadBit p s).2.trace = s.trace ++ bitEvents p m n b ∧ OnlyListened s (swReadBit p s).2) ∧
    (s.answers = List.replicate p.nBitStart Level.low ++ rest →
      (swReadBit p s).1 = none ∧ (swReadBit p s).2.answers = rest ∧
        (swReadBit p s).2.trace = s.trace ++ List.replicate p.nBitStart (Event.sample .sw .low) ∧
        OnlyListened s (swReadBit p s).2) ∧
    (m < p.nBitStart →
      s.answers = List.replicate m Level.low ++ [Level.high, b] ++ List.replicate p.nBitEnd Level.high ++ rest →
      (swReadBit p s).1 = none ∧ (swReadBit p s).2.answers = rest ∧
        (swReadBit p s).2.trace = s.trace ++ List.replicate m (Event.sample .sw .low) ++
          [Event.sample .sw .high, .delay p.tBitSampleUs, .sample .sw b] ++ List.replicate p.nBitEnd (Event.sample .sw .high) ∧
        OnlyListened s (swReadBit p s).2)

/-- One byte: eight clean bits give it most significant bit first; after `k` clean bits an `Abort`, in either wait, gives 0x00
and the rest of the byte is not attempted (R113, with `BYTE_BITS` its 8). -/
def Obligations.ReadByteIsMsbFirstOrZero : Prop :=
  ∀ (p : Params) (s : State) (b : Byte) (m n : Nat → Nat) (rest : List Level), p.byteBits = 8 →
    (∀ j, j < 8 → m j < p.nBitStart ∧ n j < p.nBitEnd) →
    (s.answers = leadingBits b 8 m n ++ rest →
      (swReadByte p s).1 = b ∧ (swReadByte p s).2.answers = rest ∧ OnlyListened s (swReadByte p s).2) ∧
    (∀ k, k < 8 → s.answers = leadingBits b k m n ++ List.replicate p.nBitStart Level.low ++ rest →
      (swReadByte p s).1 = 0 ∧ (swReadByte p s).2.answers = rest ∧ OnlyListened s (swReadByte p s).2) ∧
    (∀ k x, k < 8 → s.answers = leadingBits b k m n ++ List.replicate (m k) Level.low ++ [Level.high, x] ++
        List.replicate p.nBitEnd Level.high ++ rest →
      (swReadByte p s).1 = 0 ∧ (swReadByte p s).2.answers = rest ∧ OnlyListened s (swReadByte p s).2)

/-- The checksum: the sum modulo 256, which is byte addition with carries dropped; the corner values of the rule (R115). -/
def Obligations.ChecksumIsTheSumModulo256 : Prop :=
  (∀ b0 b1 b2 b3 : Byte,
    b0.toNat + b1.toNat + b2.toNat + b3.toNat ≤ 1020 ∧
      (checksum b0 b1 b2 b3).toNat = (b0.toNat + b1.toNat + b2.toNat + b3.toNat) % 256 ∧
      checksum b0 b1 b2 b3 = b0 + b1 + b2 + b3) ∧
  checksum 0 0 0 0 = 0 ∧ checksum 0xFF 0xFF 0xFF 0xFF = 0xFC ∧ checksum 0x80 0x80 0 0 = 0x00 ∧
  checksum 0x37 0x00 0x18 0x00 = 0x4F

/-- Changing any single byte of a valid frame makes it invalid (R116 corner case 2, from R115). -/
def Obligations.AnySingleByteChangeIsDetected : Prop :=
  ∀ (b0 b1 b2 b3 b4 x : Byte), b4 = checksum b0 b1 b2 b3 →
    (x ≠ b0 → b4 ≠ checksum x b1 b2 b3) ∧ (x ≠ b1 → b4 ≠ checksum b0 x b2 b3) ∧
    (x ≠ b2 → b4 ≠ checksum b0 b1 x b3) ∧ (x ≠ b3 → b4 ≠ checksum b0 b1 b2 x) ∧
    (x ≠ b4 → x ≠ checksum b0 b1 b2 b3)

/-- `SwValidate`, from every state: accepted exactly when the fifth byte equals the sum of the first four modulo 256, then `HUM` and
`TEMP` take frame bytes 0 and 2, else they keep their values; `CKOK` is the outcome; nothing else changes, and nothing else of the
state decides. The all-zero frame is accepted; one changed byte is rejected, two that cancel are not (R116). -/
def Obligations.SwValidateFollowsTheRelation : Prop :=
  (∀ s : State, swValidate s =
    if s.regs.frame4.toNat =
        (s.regs.frame0.toNat + s.regs.frame1.toNat + s.regs.frame2.toNat + s.regs.frame3.toNat) % 256 then
      { s with
        regs := { s.regs with hum := s.regs.frame0, temp := s.regs.frame2 }
        flags := { s.flags with ckok := true } }
    else { s with flags := { s.flags with ckok := false } }) ∧
  (∀ s : State, frameOf s = { b0 := 0, b1 := 0, b2 := 0, b3 := 0, b4 := 0 } →
    (swValidate s).flags.ckok = true ∧ (swValidate s).regs.hum = 0 ∧ (swValidate s).regs.temp = 0) ∧
  (∀ s u : State, frameAccepted s = true → frameAccepted u = true → frameOf u ≠ frameOf s →
    ∃ j k, j < 5 ∧ k < 5 ∧ j ≠ k ∧ (frameOf u).byte j ≠ (frameOf s).byte j ∧ (frameOf u).byte k ≠ (frameOf s).byte k) ∧
  (0x4F : Byte) = checksum 0x37 0x00 0x18 0x00 ∧ (0x4F : Byte) = checksum 0x38 0x00 0x17 0x00 ∧
  (0x50 : Byte) ≠ checksum 0x37 0x00 0x18 0x00

/-- `SW.READ`, whatever the line does: `CKOK` is the acceptance test of the frame just read, an accepted frame (the all-zero
one too) is copied to `HUM` and `TEMP`, a rejected one leaves them (R116). -/
def Obligations.SwReadAcceptsByTheChecksum : Prop :=
  ∀ s : State, ∃ t, exec .swRead s = .next t ∧
    (t.flags.ckok = true ↔
      t.regs.frame4 = checksum t.regs.frame0 t.regs.frame1 t.regs.frame2 t.regs.frame3) ∧
    (t.flags.ckok = true → t.regs.hum = t.regs.frame0 ∧ t.regs.temp = t.regs.frame2) ∧
    (t.flags.ckok = false → t.regs.hum = s.regs.hum ∧ t.regs.temp = s.regs.temp) ∧
    (frameOf t = { b0 := 0, b1 := 0, b2 := 0, b3 := 0, b4 := 0 } →
      t.flags.ckok = true ∧ t.regs.hum = 0 ∧ t.regs.temp = 0)

/-- The frame of `SW.READ`, whatever the line does: it ends idle with `SW` released and its latch High, having emitted the six
start events and then only delays and samples of `SW`; `PRES` is a code; the clock registers, `RDATA`, the three-wire lines
and the three-wire hidden registers are as before (R117, R118, R152). -/
def Obligations.SwReadTouchesOnlyItsOwnHalf : Prop :=
  ∀ s : State, ∃ (t : State) (es : List Event), exec .swRead s = .next t ∧
    t.trace = s.trace ++ swStartEvents Config.params ++ es ∧
    (∀ e ∈ es, (∃ v, e = .sample .sw v) ∨ ∃ n, e = .delay n) ∧
    t.pins = { s.pins with swMode := .input, swLatch := .high } ∧
    isPresCode Config.params t.regs.pres = true ∧
    (∀ f, timeReg f t = timeReg f s) ∧ t.regs.rdata = s.regs.rdata ∧
    t.hidden.sh = s.hidden.sh ∧ t.hidden.acc = s.hidden.acc ∧
    t.flags.busy = false ∧ t.flags.ill = false ∧ t.seq.phase = .idle ∧ HostKept s t

/-- `SW.READ` always ends within its budgets: at most two response samples and `N_RESP` guard polls, and for each of forty bits at
most `N_BIT_START` polls, one sample, `N_BIT_END` polls; at most two check delays and forty bit delays (R117, R250). -/
def Obligations.SwReadIsBoundedByItsBudgets : Prop :=
  ∀ s : State, ∃ (t : State) (es : List Event), exec .swRead s = .next t ∧ t.trace = s.trace ++ es ∧
    sampleCount es ≤ 2 + Config.params.nResp +
      40 * (Config.params.nBitStart + 1 + Config.params.nBitEnd) ∧
    delayTotal es ≤ 1000 * Config.params.tResetLowMs + Config.params.tStartHighUs + Config.params.tRespWaitUs +
      Config.params.tRespHighUs + 40 * Config.params.tBitSampleUs

/-- The headline of the single-wire half: whatever the response check finds, a line that then sends the forty bits of a frame, each
wait reached within its budget, is read back as that frame, with the check's code in `PRES`; `CKOK`, `HUM` and `TEMP` follow
the checksum. So `EnvSensor` is read right (R183) and `PRES` gates nothing (R204). -/
def Obligations.SwReadReadsBackTheFrame : Prop :=
  ∀ (s : State) (hs rest : List Level) (code : Byte) (f : Frame) (m n : Nat → Nat),
    Handshake Config.params hs code →
    (∀ k, k < 40 → m k < Config.params.nBitStart ∧ n k < Config.params.nBitEnd) →
    s.answers = hs ++ frameAnswers f m n ++ rest →
    ∃ t, exec .swRead s = .next t ∧ t.regs.pres = code ∧ frameOf t = f ∧ t.answers = rest ∧
      (t.flags.ckok = true ↔ f.b4 = checksum f.b0 f.b1 f.b2 f.b3) ∧
      (f.b4 = checksum f.b0 f.b1 f.b2 f.b3 → t.regs.hum = f.b0 ∧ t.regs.temp = f.b2) ∧
      (f.b4 ≠ checksum f.b0 f.b1 f.b2 f.b3 → t.regs.hum = s.regs.hum ∧ t.regs.temp = s.regs.temp)

/-- `SW.READ` against the reference sensor of R183, an environment that counts the samples since the last release of `SW`: some run of
it is answered by the sensor, and every run so answered ends with `PRES` ok and the sensor's frame, `CKOK`, `HUM` and `TEMP` by the
checksum. The sensor is a reference peer, its table an inference of the spec (Log 19). -/
def Obligations.SwReadAgainstTheReferenceSensor : Prop :=
  ∀ (other : Env) (f : Frame) (g : Nat) (m n : Nat → Nat) (s : State), SensorFits Config.params g m n →
    (∀ rest, s.answers = sensorAnswers f g m n ++ rest →
      ∃ (t : State) (es : List Event), exec .swRead s = .next t ∧ t.trace = s.trace ++ es ∧ t.answers = rest ∧
        answeredBy (envSensor other f g m n) s.trace es = true) ∧
    ∀ (t : State) (es : List Event), exec .swRead s = .next t → t.trace = s.trace ++ es →
      answeredBy (envSensor other f g m n) s.trace es = true →
      t.regs.pres = Config.params.presOk ∧ frameOf t = f ∧
      (t.flags.ckok = true ↔ f.b4 = checksum f.b0 f.b1 f.b2 f.b3) ∧
      (f.b4 = checksum f.b0 f.b1 f.b2 f.b3 → t.regs.hum = f.b0 ∧ t.regs.temp = f.b2) ∧
      (f.b4 ≠ checksum f.b0 f.b1 f.b2 f.b3 → t.regs.hum = s.regs.hum ∧ t.regs.temp = s.regs.temp)

/-- A line stuck High yields an accepted all-zero frame, `PRES` the timeout code, after exactly `1 + N_RESP + 5 × (2 + N_BIT_END)`
samples (R119). -/
def Obligations.LineStuckHighReadsAsZero : Prop :=
  ∀ (s : State) (rest : List Level),
    s.answers =
      List.replicate (1 + Config.params.nResp + 5 * (2 + Config.params.nBitEnd)) Level.high ++ rest →
    ∃ t, exec .swRead s = .next t ∧ t.answers = rest ∧ t.regs.pres = Config.params.presTimeout ∧
      frameOf t = { b0 := 0, b1 := 0, b2 := 0, b3 := 0, b4 := 0 } ∧ t.regs.hum = 0 ∧ t.regs.temp = 0 ∧
      t.flags.ckok = true

/-- A line stuck Low yields an accepted all-zero frame, `PRES` the error code, after exactly `3 + 5 × N_BIT_START` samples (R119). -/
def Obligations.LineStuckLowReadsAsZero : Prop :=
  ∀ (s : State) (rest : List Level),
    s.answers = List.replicate (3 + 5 * Config.params.nBitStart) Level.low ++ rest →
    ∃ t, exec .swRead s = .next t ∧ t.answers = rest ∧ t.regs.pres = Config.params.presErr ∧
      frameOf t = { b0 := 0, b1 := 0, b2 := 0, b3 := 0, b4 := 0 } ∧ t.regs.hum = 0 ∧ t.regs.temp = 0 ∧
      t.flags.ckok = true

/-! ### The three-wire half -/

/-- `WriteByte`: bit `i` is on `DAT` during pulse `i`, least significant first, 41 events; afterwards `DAT` is Output and carries bit
7, `CLK` is Low, `sh` is 0, nothing else of the engine changes (R141, with `BYTE_BITS` its 8). -/
def Obligations.WriteByteShiftsOutLsbFirst : Prop :=
  ∀ (p : Params) (v : Byte) (s : State), p.byteBits = 8 →
    (writeByte p v s).trace = s.trace ++ writeByteEvents p v ∧ (writeByteEvents p v).length = 41 ∧
    (writeByte p v s).pins = { s.pins with datMode := .output, datLatch := bitLevel v 7, clkLatch := .low } ∧
    (writeByte p v s).hidden = { s.hidden with sh := 0 } ∧ (writeByte p v s).regs = s.regs ∧
    (writeByte p v s).flags = s.flags ∧ (writeByte p v s).seq = s.seq ∧ (writeByte p v s).answers = s.answers ∧
    HostKept s (writeByte p v s)

/-- `ReadByte`: the result has the `i`-th sample as its bit `i`; each sample precedes its pulse; 41 events; afterwards `DAT` is Input
and `CLK` Low, nothing else of the engine changes (R142, with `BYTE_BITS` its 8). -/
def Obligations.ReadByteAssemblesLsbFirst : Prop :=
  ∀ (p : Params) (s : State), p.byteBits = 8 →
    (readByte p s).trace = s.trace ++ readByteEvents p (readByte p s).hidden.acc ∧
    (readByteEvents p (readByte p s).hidden.acc).length = 41 ∧
    (∀ a0 a1 a2 a3 a4 a5 a6 a7 rest, s.answers = [a0, a1, a2, a3, a4, a5, a6, a7] ++ rest →
      (readByte p s).hidden.acc = levelByte a0 + levelByte a1 <<< 1 + levelByte a2 <<< 2 + levelByte a3 <<< 3 +
        levelByte a4 <<< 4 + levelByte a5 <<< 5 + levelByte a6 <<< 6 + levelByte a7 <<< 7 ∧
      (readByte p s).answers = rest) ∧
    (readByte p s).pins = { s.pins with datMode := .input, clkLatch := .low } ∧
    (readByte p s).hidden = { s.hidden with acc := (readByte p s).hidden.acc } ∧ (readByte p s).regs = s.regs ∧
    (readByte p s).flags = s.flags ∧ (readByte p s).seq = s.seq ∧ HostKept s (readByte p s)

/-- `RTC.WRREG a, b`: one write transaction of 85 events, the bytes sent as given; no register changes (R145, R147). -/
def Obligations.WrregSendsOneWriteTransaction : Prop :=
  (∀ a b : Byte, decode (.cmd (cmdWord 0x10 a b)) = .ok (.rtcWrreg a b)) ∧
  ∀ (a b : Byte) (s : State), ∃ t, exec (.rtcWrreg a b) s = .next t ∧
    t.trace = s.trace ++ writeRegisterEvents Config.params a b ∧
    (writeRegisterEvents Config.params a b).length = 85 ∧
    t.pins = restedPins .output (bitLevel b 7) s ∧ t.regs = s.regs ∧ t.flags = doneFlags s ∧
    t.hidden = { s.hidden with sh := 0 } ∧ t.seq.phase = .idle ∧ t.answers = s.answers ∧ HostKept s t

/-- `RTC.RDREG a`: one read transaction of 85 events; `RDATA` is the byte whose bits were sampled, raw; no other register changes
(R146, R148). -/
def Obligations.RdregStoresTheByteItSampled : Prop :=
  (∀ a b : Byte, decode (.cmd (cmdWord 0x11 a b)) = .ok (.rtcRdreg a)) ∧
  ∀ (a : Byte) (s : State), ∃ t, exec (.rtcRdreg a) s = .next t ∧
    t.trace = s.trace ++ readRegisterEvents Config.params a t.regs.rdata ∧
    (readRegisterEvents Config.params a t.regs.rdata).length = 85 ∧
    (∀ r rest, s.answers = byteAnswers r ++ rest → t.regs.rdata = r ∧ t.answers = rest) ∧
    t.pins = restedPins .input (bitLevel a 7) s ∧ t.regs = { s.regs with rdata := t.regs.rdata } ∧
    t.flags = doneFlags s ∧ t.hidden = { s.hidden with sh := 0, acc := t.regs.rdata } ∧ t.seq.phase = .idle ∧
    HostKept s t

/-- `RTC.INIT`: unlock, the seven seed writes in the listed order if enabled, lock, each one write transaction; no register changes
(R149). -/
def Obligations.InitWritesUnlockSeedsLock : Prop :=
  (∀ a b : Byte, decode (.cmd (cmdWord 0x12 a b)) = .ok .rtcInit) ∧
  ∀ s : State, ∃ t, exec .rtcInit s = .next t ∧
    t.trace = s.trace ++ (initPairs Config.params).flatMap (fun w => writeRegisterEvents Config.params w.1 w.2) ∧
    t.pins = restedPins .output (bitLevel Config.params.wpLock 7) s ∧ t.regs = s.regs ∧ t.flags = doneFlags s ∧
    t.hidden = { s.hidden with sh := 0 } ∧ t.seq.phase = .idle ∧ t.answers = s.answers ∧ HostKept s t

/-- `RTC.GETTIME`: six read transactions in the listed order, each byte decoded whole into its register; `RDATA` and every other
register are as before (R150, R174). -/
def Obligations.GettimeReadsAndDecodesSixFields : Prop :=
  (∀ a b : Byte, decode (.cmd (cmdWord 0x13 a b)) = .ok .rtcGettime) ∧
  ∀ s : State, ∃ (t : State) (r0 r1 r2 r3 r4 r5 : Byte), exec .rtcGettime s = .next t ∧
    t.trace = s.trace ++ readRegisterEvents Config.params 0x81 r0 ++ readRegisterEvents Config.params 0x83 r1 ++
      readRegisterEvents Config.params 0x85 r2 ++ readRegisterEvents Config.params 0x87 r3 ++
      readRegisterEvents Config.params 0x89 r4 ++ readRegisterEvents Config.params 0x8D r5 ∧
    t.regs = { s.regs with
      timeSec := bcdDec r0, timeMin := bcdDec r1, timeHour := bcdDec r2, timeDate := bcdDec r3,
      timeMonth := bcdDec r4, timeYear := bcdDec r5 } ∧
    (∀ x0 x1 x2 x3 x4 x5 rest, s.answers = byteAnswers x0 ++ byteAnswers x1 ++ byteAnswers x2 ++ byteAnswers x3 ++
        byteAnswers x4 ++ byteAnswers x5 ++ rest →
      [r0, r1, r2, r3, r4, r5] = [x0, x1, x2, x3, x4, x5] ∧ t.answers = rest) ∧
    t.pins = restedPins .input .high s ∧ t.flags = doneFlags s ∧
    t.hidden = { s.hidden with sh := 0, acc := r5 } ∧ t.seq.phase = .idle ∧ HostKept s t

/-- Each write row of the address table is one write transaction at its address with the data byte after it: no register, flag or
sequencer field changes (R70, R145; that the rows run at all as micro-operations is the model's choice, Log 10). -/
def Obligations.WriteAddressRowsSendTheirTransaction : Prop :=
  ∀ (v : Byte) (s : State), ∀ r ∈ writeRows v, ∃ t, exec r.1 s = .next t ∧
    t.trace = s.trace ++ writeRegisterEvents Config.params r.2 v ∧ t.pins = restedPins .output (bitLevel v 7) s ∧
    t.regs = s.regs ∧ t.flags = s.flags ∧ t.hidden = { s.hidden with sh := 0 } ∧ t.seq = s.seq ∧
    t.answers = s.answers ∧ HostKept s t

/-- Each read row of the address table is one read transaction at its address, the byte left in the accumulator: no register, flag
or sequencer field changes (R70, R146; Log 10). -/
def Obligations.ReadAddressRowsReadTheirTransaction : Prop :=
  ∀ s : State, ∀ r ∈ readRows, ∃ t, exec r.1 s = .next t ∧
    t.trace = s.trace ++ readRegisterEvents Config.params r.2 t.hidden.acc ∧
    (∀ x rest, s.answers = byteAnswers x ++ rest → t.hidden.acc = x ∧ t.answers = rest) ∧
    t.pins = restedPins .input .high s ∧ t.regs = s.regs ∧ t.flags = s.flags ∧
    t.hidden = { s.hidden with sh := 0, acc := t.hidden.acc } ∧ t.seq = s.seq ∧ HostKept s t

/-- The stated delays and the samples of the commands that do not touch `SW`: 32 µs a transaction, so 64 or 288 µs for `RTC.INIT`, 192 µs
and 48 samples for `RTC.GETTIME`, none for `BCD.DEC` (R251, with `T_CLK_PHASE_US` at its default). -/
def Obligations.StatedDelaysOfTheOtherCommands : Prop :=
  Config.params.tClkPhaseUs = 1 ∧
  ∀ (a b : Byte) (s : State),
    (∃ (t : State) (es : List Event), exec (.rtcWrreg a b) s = .next t ∧ t.trace = s.trace ++ es ∧
      delayTotal es = 32 ∧ sampleCount es = 0) ∧
    (∃ (t : State) (es : List Event), exec (.rtcRdreg a) s = .next t ∧ t.trace = s.trace ++ es ∧
      delayTotal es = 32 ∧ sampleCount es = 8) ∧
    (∃ (t : State) (es : List Event), exec .rtcInit s = .next t ∧ t.trace = s.trace ++ es ∧
      delayTotal es = (if Config.params.seedEnable then 288 else 64) ∧ sampleCount es = 0) ∧
    (∃ (t : State) (es : List Event), exec .rtcGettime s = .next t ∧ t.trace = s.trace ++ es ∧
      delayTotal es = 192 ∧ sampleCount es = 48) ∧
    ∃ (t : State) (es : List Event), exec (.bcdDec b) s = .next t ∧ t.trace = s.trace ++ es ∧
      delayTotal es = 0 ∧ sampleCount es = 0

/-! ### Rules over all instructions -/

/-- Every instruction, in every state, goes on to a next state having driven each bidirectional line only in Output mode and sampled
it only in Input mode: the undefined access is unreachable (R98, R240). -/
def Obligations.EveryInstructionRespectsTheModes : Prop :=
  ∀ (i : Instr) (s : State), ∃ (t : State) (es : List Event), exec i s = .next t ∧ t.trace = s.trace ++ es ∧
    modesRespected s.pins.swMode s.pins.datMode es = true

/-- Every instruction, in every state, makes whole transactions only: each `CE` period holds exactly 16 clock pulses and no pulse
stands outside one; if `CE` and `CLK` rested Low before they do so after (R68, R151). -/
def Obligations.EveryTransactionHasSixteenPulses : Prop :=
  ∀ (i : Instr) (s : State), ∃ (t : State) (es : List Event), exec i s = .next t ∧ t.trace = s.trace ++ es ∧
    framed none es = true ∧ (busRests s = true → busRests t = true)

/-- The two halves share no line: `SW.READ` makes no event on `CLK`, `DAT` or `CE`, every other instruction makes none on `SW`,
and `BCD.DEC` makes none at all (R14, R152, R173). -/
def Obligations.TheHalvesShareNoLine : Prop :=
  ∀ (i : Instr) (s : State), ∃ (t : State) (es : List Event), exec i s = .next t ∧ t.trace = s.trace ++ es ∧
    (i = .swRead → ∀ e ∈ es, eventLine e = none ∨ eventLine e = some .sw) ∧
    (i ≠ .swRead → (∀ e ∈ es, eventLine e ≠ some .sw) ∧ t.pins.swMode = s.pins.swMode ∧
      t.pins.swLatch = s.pins.swLatch) ∧
    ∀ b, i = .bcdDec b → es = []

/-! ### The decoder -/

/-- `BcdDec`: the formula, total, at most 165, one-to-one from the valid BCD bytes to 0 to 99; the rule's values off them (R170). -/
def Obligations.BcdDecodeIsTheFormula : Prop :=
  (∀ v : Byte, (bcdDec v).toNat = v.toNat / 16 * 10 + v.toNat % 16 ∧ (bcdDec v).toNat ≤ 165) ∧
  (∀ v : Byte, validBcd v = true → (bcdDec v).toNat ≤ 99) ∧
  (∀ v w : Byte, validBcd v = true → validBcd w = true → bcdDec v = bcdDec w → v = w) ∧
  bcdDec 0x0A = 10 ∧ bcdDec 0x10 = 10 ∧ bcdDec 0x1F = 25 ∧ bcdDec 0xA0 = 100 ∧ bcdDec 0xFF = 165 ∧
  bcdDec 0x30 = 30 ∧ bcdDec 0x45 = 45 ∧ bcdDec 0x12 = 12

/-- Both round trips on their domains, the encoder's refusal above 99, and the second law's failure off the valid bytes (R171,
R172). -/
def Obligations.BcdRoundTrips : Prop :=
  (∀ d : Nat, d ≤ 99 → ∃ v, bcdEnc d = some v ∧ validBcd v = true ∧ (bcdDec v).toNat = d) ∧
  (∀ d : Nat, 99 < d → bcdEnc d = none) ∧
  (∀ v : Byte, validBcd v = true → bcdEnc (bcdDec v).toNat = some v) ∧
  bcdEnc (bcdDec 0x0A).toNat = some 0x10

/-- `BCD.DEC b`: `RDATA` is the decoded byte, the `a` field is ignored, the flags are those after a legal command, no other register,
no line and no hidden register changes: no pin event, no delay (R173). Of the time it takes it says nothing. -/
def Obligations.BcdDecWritesRdataOnly : Prop :=
  ∀ (a b : Byte) (s : State), decode (.cmd (cmdWord 0x20 a b)) = .ok (.bcdDec b) ∧
    ∃ t, exec (.bcdDec b) s = .next t ∧
      t.regs = { s.regs with rdata := BitVec.ofNat 8 (b.toNat / 16 * 10 + b.toNat % 16) } ∧
      t.flags = doneFlags s ∧ t.pins = s.pins ∧ t.hidden = s.hidden ∧ t.seq.phase = .idle ∧ t.trace = s.trace ∧
      t.answers = s.answers ∧ HostKept s t

/-! ### The host's registers -/

/-- `STATUS`: `BUSY`, `CKOK`, `ILL` in bits 0, 1, 2; bits 7 to 3 read as 0 (R17). -/
def Obligations.StatusByteHoldsThreeFlags : Prop :=
  ∀ f : Flags, (statusByte f).getLsbD 0 = f.busy ∧ (statusByte f).getLsbD 1 = f.ckok ∧
    (statusByte f).getLsbD 2 = f.ill ∧ ∀ k, 3 ≤ k → (statusByte f).getLsbD k = false

/-- A host read while idle returns the register's value, zero-extended, 0 for `CMD` and for numbers above 17, and for `TICK` the
reading of that moment; the engine is not affected. A bare write to any register but `CMD` is ignored (R10, R41). -/
def Obligations.IdleReadsReturnTheRegisters : Prop :=
  ∀ (s : State) (rest : List HostAct) (n : Nat),
    (s.flags.busy = false → HostNext s (.read n) rest → ∃ t, step s = .next t ∧ EngineKept s t ∧ t.host = rest ∧
      (n = 0 ∨ 17 < n → t.hostData = 0) ∧
      (n = 1 → t.hostData = (statusByte s.flags).setWidth 32) ∧
      (n = 2 → t.hostData = s.regs.pres.setWidth 32) ∧ (n = 3 → t.hostData = s.regs.frame0.setWidth 32) ∧
      (n = 4 → t.hostData = s.regs.frame1.setWidth 32) ∧ (n = 5 → t.hostData = s.regs.frame2.setWidth 32) ∧
      (n = 6 → t.hostData = s.regs.frame3.setWidth 32) ∧ (n = 7 → t.hostData = s.regs.frame4.setWidth 32) ∧
      (n = 8 → t.hostData = s.regs.hum.setWidth 32) ∧ (n = 9 → t.hostData = s.regs.temp.setWidth 32) ∧
      (n = 10 → t.hostData = s.regs.timeSec.setWidth 32) ∧ (n = 11 → t.hostData = s.regs.timeMin.setWidth 32) ∧
      (n = 12 → t.hostData = s.regs.timeHour.setWidth 32) ∧ (n = 13 → t.hostData = s.regs.timeDate.setWidth 32) ∧
      (n = 14 → t.hostData = s.regs.timeMonth.setWidth 32) ∧ (n = 15 → t.hostData = s.regs.timeYear.setWidth 32) ∧
      (n = 16 → t.hostData = s.regs.rdata.setWidth 32) ∧ (n = 17 → t.hostData = t.tick)) ∧
    ∀ w, n ≠ 0 → HostNext s (.write n w) rest → step s = .next { s with host := rest }

/-- A host read at any moment leaves the engine alone; while `BUSY = 1` the bits `BUSY` and `ILL` read true, and a register the
running command does not write reads its held value (R41, R249). -/
def Obligations.BusyReadsKeepBusyAndIllTrue : Prop :=
  ∀ (s : State) (rest : List HostAct) (n : Nat) (i : Instr), HostNext s (.read n) rest → s.flags.busy = true →
    running s = some i → ∃ t, step s = .next t ∧ EngineKept s t ∧ t.host = rest ∧
      (n = 1 → t.hostData.getLsbD 0 = true ∧ t.hostData.getLsbD 2 = s.flags.ill ∧
        (i ≠ .swRead → t.hostData = (statusByte s.flags).setWidth 32)) ∧
      (n ≠ 1 → n ≠ 17 → writesRegister i n = false → t.hostData = heldValue n s)

/-! ### Against the reference clock chip -/

/-- A read of an odd address from 0x81 to 0x8F against the static reference chip returns the register it names and changes nothing in the
chip (R187). The chip is a reference peer, not part of the engine. -/
def Obligations.ChipReadReturnsTheRegister : Prop :=
  ∀ (c : Chip) (a : Byte) (s : State), c.inTx = false → chipModels a = true → isReadAddr a = true →
    (∀ rest, s.answers = byteAnswers c.reg[regIndex a] ++ rest →
      ∃ (t : State) (es : List Event) (c1 : Chip), exec (.rtcRdreg a) s = .next t ∧ t.trace = s.trace ++ es ∧
        c.follow es = some c1 ∧ c1.reg = c.reg ∧ c1.inTx = false ∧ t.regs.rdata = c.reg[regIndex a]) ∧
    ∀ (t : State) (es : List Event) (c1 : Chip), exec (.rtcRdreg a) s = .next t → t.trace = s.trace ++ es →
      c.follow es = some c1 → t.regs.rdata = c.reg[regIndex a] ∧ c1.reg = c.reg

/-- A write to an even address from 0x80 to 0x8E against the reference chip: the control register always takes the byte, another register
only while bit 7 of the control register is 0 (R186; the effect of write protection is the spec's general knowledge G5). -/
def Obligations.ChipWriteObeysWriteProtection : Prop :=
  ∀ (c : Chip) (a v : Byte) (s : State), c.inTx = false → chipModels a = true → isReadAddr a = false →
    ∃ (t : State) (es : List Event) (c1 : Chip), exec (.rtcWrreg a v) s = .next t ∧ t.trace = s.trace ++ es ∧
      c.follow es = some c1 ∧ c1.inTx = false ∧ c1.reg = chipAfterWrite c.reg a v

/-- `RTC.INIT` against the reference chip leaves it locked, with the seeds in the seven fields if seeding is enabled, and with the seven
fields as they were if not, whatever it held (R188 (1), (2)). -/
def Obligations.ChipIsSeededAndLockedByInit : Prop :=
  ∀ (c : Chip) (s : State), c.inTx = false →
    ∃ (t : State) (es : List Event) (c1 : Chip), exec .rtcInit s = .next t ∧ t.trace = s.trace ++ es ∧
      c.follow es = some c1 ∧ c1.inTx = false ∧
      c1.reg = if Config.params.seedEnable then
          #v[Config.params.seed0, Config.params.seed1, Config.params.seed2, Config.params.seed3, Config.params.seed4,
            Config.params.seed5, Config.params.seed6, Config.params.wpLock]
        else c.reg.set 7 Config.params.wpLock

/-- With no chip, a stuck `DAT` decodes to 165 in every time register if High and to 0 if Low, and no flag tells (R182). -/
def Obligations.GettimeOnADeadLine : Prop :=
  ∀ (s : State) (rest : List Level),
    (s.answers = List.replicate 48 Level.high ++ rest → ∃ t, exec .rtcGettime s = .next t ∧
      (∀ f, timeReg f t = 165) ∧ t.flags = doneFlags s ∧ t.answers = rest) ∧
    (s.answers = List.replicate 48 Level.low ++ rest → ∃ t, exec .rtcGettime s = .next t ∧
      (∀ f, timeReg f t = 0) ∧ t.flags = doneFlags s ∧ t.answers = rest)

/-- `RTC.GETTIME` against the static reference chip: the six time registers are the decoded registers 0 to 4 and 6, register 5 is not read,
the chip is left as it was (R188 (4)). -/
def Obligations.GettimeReadsTheChip : Prop :=
  ∀ (c : Chip) (s : State) (rest : List Level), c.inTx = false →
    s.answers = byteAnswers c.reg[0] ++ byteAnswers c.reg[1] ++ byteAnswers c.reg[2] ++ byteAnswers c.reg[3] ++
      byteAnswers c.reg[4] ++ byteAnswers c.reg[6] ++ rest →
    ∃ (t : State) (es : List Event) (c1 : Chip), exec .rtcGettime s = .next t ∧ t.trace = s.trace ++ es ∧
      c.follow es = some c1 ∧ c1.reg = c.reg ∧ c1.inTx = false ∧ t.answers = rest ∧
      timeReg .sec t = bcdDec c.reg[0] ∧ timeReg .min t = bcdDec c.reg[1] ∧ timeReg .hour t = bcdDec c.reg[2] ∧
      timeReg .date t = bcdDec c.reg[3] ∧ timeReg .month t = bcdDec c.reg[4] ∧ timeReg .year t = bcdDec c.reg[6]
end

