-- ==== Sys2Proof/Laws/Decode.lean ====
section
/-! SUPPORT. The fields of a command word, and the two tables row by row. -/

namespace Sys2Proof

/-- Bits 23:16 of `{op, a, b}` are `op` (R60). -/
theorem opField_cmdWord (op a b : Byte) : opField (cmdWord op a b) = op := by
  ext i hi
  simp only [opField, cmdWord, BitVec.getElem_extractLsb', BitVec.getLsbD_append]
  have h1 : ¬ (16 + i < 8) := by omega
  have h2 : ¬ (16 + i - 8 < 8) := by omega
  have h3 : 16 + i - 8 - 8 = i := by omega
  simp [h1, h2, h3, BitVec.getLsbD_eq_getElem hi]

/-- Bits 15:8 of `{op, a, b}` are `a` (R60). -/
theorem aField_cmdWord (op a b : Byte) : aField (cmdWord op a b) = a := by
  ext i hi
  simp only [aField, cmdWord, BitVec.getElem_extractLsb', BitVec.getLsbD_append]
  have h1 : ¬ (8 + i < 8) := by omega
  simp [hi]

/-- Bits 7:0 of `{op, a, b}` are `b` (R60). -/
theorem bField_cmdWord (op a b : Byte) : bField (cmdWord op a b) = b := by
  ext i hi
  simp only [bField, cmdWord, BitVec.getElem_extractLsb', BitVec.getLsbD_append]
  simp [hi]

/-- No two rows of the command table match one word. -/
theorem cmdRows_disjoint : (cmdRows.map CmdRow.op).Nodup := by decide

/-- No two rows of the address table match one byte. -/
theorem addrRows_disjoint : (addrRows.map AddrRow.address).Nodup := by decide

end Sys2Proof
end

