-- ==== Sys2Proof/Laws/State.lean ====
section
/-! SUPPORT. Beside State: what each update makes of each field, one lemma per field per update, and the pins and
registers that the updates with a line or a field name write. -/

namespace Sys2Proof.Machine

open Sys2Proof

@[simp] theorem emit_flags (e : Event) (s : State) : (emit e s).flags = s.flags := rfl
@[simp] theorem emit_regs (e : Event) (s : State) : (emit e s).regs = s.regs := rfl
@[simp] theorem emit_tick (e : Event) (s : State) : (emit e s).tick = s.tick := rfl
@[simp] theorem emit_pins (e : Event) (s : State) : (emit e s).pins = s.pins := rfl
@[simp] theorem emit_hidden (e : Event) (s : State) : (emit e s).hidden = s.hidden := rfl
@[simp] theorem emit_seq (e : Event) (s : State) : (emit e s).seq = s.seq := rfl
@[simp] theorem emit_trace (e : Event) (s : State) : (emit e s).trace = s.trace ++ [e] := rfl
@[simp] theorem emit_answers (e : Event) (s : State) : (emit e s).answers = s.answers := rfl
@[simp] theorem emit_draws (e : Event) (s : State) : (emit e s).draws = s.draws := rfl
@[simp] theorem emit_host (e : Event) (s : State) : (emit e s).host = s.host := rfl
@[simp] theorem emit_hostData (e : Event) (s : State) : (emit e s).hostData = s.hostData := rfl
@[simp] theorem emit_probe (e : Event) (s : State) : (emit e s).probe = s.probe := rfl

@[simp] theorem setMode_flags (l : BiLine) (m : Mode) (s : State) :
    (setMode l m s).flags = s.flags := by cases l <;> rfl
@[simp] theorem setMode_regs (l : BiLine) (m : Mode) (s : State) :
    (setMode l m s).regs = s.regs := by cases l <;> rfl
@[simp] theorem setMode_tick (l : BiLine) (m : Mode) (s : State) :
    (setMode l m s).tick = s.tick := by cases l <;> rfl
@[simp] theorem setMode_hidden (l : BiLine) (m : Mode) (s : State) :
    (setMode l m s).hidden = s.hidden := by cases l <;> rfl
@[simp] theorem setMode_seq (l : BiLine) (m : Mode) (s : State) : (setMode l m s).seq = s.seq := by cases l <;> rfl
@[simp] theorem setMode_trace (l : BiLine) (m : Mode) (s : State) :
    (setMode l m s).trace = s.trace := by cases l <;> rfl
@[simp] theorem setMode_answers (l : BiLine) (m : Mode) (s : State) :
    (setMode l m s).answers = s.answers := by cases l <;> rfl
@[simp] theorem setMode_draws (l : BiLine) (m : Mode) (s : State) :
    (setMode l m s).draws = s.draws := by cases l <;> rfl
@[simp] theorem setMode_host (l : BiLine) (m : Mode) (s : State) :
    (setMode l m s).host = s.host := by cases l <;> rfl
@[simp] theorem setMode_hostData (l : BiLine) (m : Mode) (s : State) :
    (setMode l m s).hostData = s.hostData := by cases l <;> rfl
@[simp] theorem setMode_probe (l : BiLine) (m : Mode) (s : State) :
    (setMode l m s).probe = s.probe := by cases l <;> rfl

@[simp] theorem setLatch_flags (l : Line) (v : Level) (s : State) :
    (setLatch l v s).flags = s.flags := by cases l <;> rfl
@[simp] theorem setLatch_regs (l : Line) (v : Level) (s : State) :
    (setLatch l v s).regs = s.regs := by cases l <;> rfl
@[simp] theorem setLatch_tick (l : Line) (v : Level) (s : State) :
    (setLatch l v s).tick = s.tick := by cases l <;> rfl
@[simp] theorem setLatch_hidden (l : Line) (v : Level) (s : State) :
    (setLatch l v s).hidden = s.hidden := by cases l <;> rfl
@[simp] theorem setLatch_seq (l : Line) (v : Level) (s : State) :
    (setLatch l v s).seq = s.seq := by cases l <;> rfl
@[simp] theorem setLatch_trace (l : Line) (v : Level) (s : State) :
    (setLatch l v s).trace = s.trace := by cases l <;> rfl
@[simp] theorem setLatch_answers (l : Line) (v : Level) (s : State) :
    (setLatch l v s).answers = s.answers := by cases l <;> rfl
@[simp] theorem setLatch_draws (l : Line) (v : Level) (s : State) :
    (setLatch l v s).draws = s.draws := by cases l <;> rfl
@[simp] theorem setLatch_host (l : Line) (v : Level) (s : State) :
    (setLatch l v s).host = s.host := by cases l <;> rfl
@[simp] theorem setLatch_hostData (l : Line) (v : Level) (s : State) :
    (setLatch l v s).hostData = s.hostData := by cases l <;> rfl
@[simp] theorem setLatch_probe (l : Line) (v : Level) (s : State) :
    (setLatch l v s).probe = s.probe := by cases l <;> rfl

@[simp] theorem setOutput_flags (l : BiLine) (s : State) : (setOutput l s).flags = s.flags := by cases l <;> rfl
@[simp] theorem setOutput_regs (l : BiLine) (s : State) : (setOutput l s).regs = s.regs := by cases l <;> rfl
@[simp] theorem setOutput_tick (l : BiLine) (s : State) : (setOutput l s).tick = s.tick := by cases l <;> rfl
@[simp] theorem setOutput_pins (l : BiLine) (s : State) :
    (setOutput l s).pins = (setMode l .output s).pins := by cases l <;> rfl
@[simp] theorem setOutput_hidden (l : BiLine) (s : State) : (setOutput l s).hidden = s.hidden := by cases l <;> rfl
@[simp] theorem setOutput_seq (l : BiLine) (s : State) : (setOutput l s).seq = s.seq := by cases l <;> rfl
@[simp] theorem setOutput_trace (l : BiLine) (s : State) :
    (setOutput l s).trace = s.trace ++ [.mode l .output] := by cases l <;> rfl
@[simp] theorem setOutput_answers (l : BiLine) (s : State) :
    (setOutput l s).answers = s.answers := by cases l <;> rfl
@[simp] theorem setOutput_draws (l : BiLine) (s : State) : (setOutput l s).draws = s.draws := by cases l <;> rfl
@[simp] theorem setOutput_host (l : BiLine) (s : State) : (setOutput l s).host = s.host := by cases l <;> rfl
@[simp] theorem setOutput_hostData (l : BiLine) (s : State) :
    (setOutput l s).hostData = s.hostData := by cases l <;> rfl
@[simp] theorem setOutput_probe (l : BiLine) (s : State) :
    (setOutput l s).probe = s.probe := by cases l <;> rfl

@[simp] theorem setInput_flags (l : BiLine) (s : State) : (setInput l s).flags = s.flags := by cases l <;> rfl
@[simp] theorem setInput_regs (l : BiLine) (s : State) : (setInput l s).regs = s.regs := by cases l <;> rfl
@[simp] theorem setInput_tick (l : BiLine) (s : State) : (setInput l s).tick = s.tick := by cases l <;> rfl
@[simp] theorem setInput_pins (l : BiLine) (s : State) :
    (setInput l s).pins = (setMode l .input s).pins := by cases l <;> rfl
@[simp] theorem setInput_hidden (l : BiLine) (s : State) : (setInput l s).hidden = s.hidden := by cases l <;> rfl
@[simp] theorem setInput_seq (l : BiLine) (s : State) : (setInput l s).seq = s.seq := by cases l <;> rfl
@[simp] theorem setInput_trace (l : BiLine) (s : State) :
    (setInput l s).trace = s.trace ++ [.mode l .input] := by cases l <;> rfl
@[simp] theorem setInput_answers (l : BiLine) (s : State) :
    (setInput l s).answers = s.answers := by cases l <;> rfl
@[simp] theorem setInput_draws (l : BiLine) (s : State) : (setInput l s).draws = s.draws := by cases l <;> rfl
@[simp] theorem setInput_host (l : BiLine) (s : State) : (setInput l s).host = s.host := by cases l <;> rfl
@[simp] theorem setInput_hostData (l : BiLine) (s : State) :
    (setInput l s).hostData = s.hostData := by cases l <;> rfl
@[simp] theorem setInput_probe (l : BiLine) (s : State) :
    (setInput l s).probe = s.probe := by cases l <;> rfl

@[simp] theorem driveLine_flags (l : Line) (v : Level) (s : State) :
    (driveLine l v s).flags = s.flags := by cases l <;> rfl
@[simp] theorem driveLine_regs (l : Line) (v : Level) (s : State) :
    (driveLine l v s).regs = s.regs := by cases l <;> rfl
@[simp] theorem driveLine_tick (l : Line) (v : Level) (s : State) :
    (driveLine l v s).tick = s.tick := by cases l <;> rfl
@[simp] theorem driveLine_pins (l : Line) (v : Level) (s : State) :
    (driveLine l v s).pins = (setLatch l v s).pins := by cases l <;> rfl
@[simp] theorem driveLine_hidden (l : Line) (v : Level) (s : State) :
    (driveLine l v s).hidden = s.hidden := by cases l <;> rfl
@[simp] theorem driveLine_seq (l : Line) (v : Level) (s : State) :
    (driveLine l v s).seq = s.seq := by cases l <;> rfl
@[simp] theorem driveLine_trace (l : Line) (v : Level) (s : State) :
    (driveLine l v s).trace = s.trace ++ [.drive l v] := by cases l <;> rfl
@[simp] theorem driveLine_answers (l : Line) (v : Level) (s : State) :
    (driveLine l v s).answers = s.answers := by cases l <;> rfl
@[simp] theorem driveLine_draws (l : Line) (v : Level) (s : State) :
    (driveLine l v s).draws = s.draws := by cases l <;> rfl
@[simp] theorem driveLine_host (l : Line) (v : Level) (s : State) :
    (driveLine l v s).host = s.host := by cases l <;> rfl
@[simp] theorem driveLine_hostData (l : Line) (v : Level) (s : State) :
    (driveLine l v s).hostData = s.hostData := by cases l <;> rfl
@[simp] theorem driveLine_probe (l : Line) (v : Level) (s : State) :
    (driveLine l v s).probe = s.probe := by cases l <;> rfl

@[simp] theorem advanceTick_flags (p : Params) (d : Nat) (s : State) : (advanceTick p d s).flags = s.flags := rfl
@[simp] theorem advanceTick_regs (p : Params) (d : Nat) (s : State) : (advanceTick p d s).regs = s.regs := rfl
@[simp] theorem advanceTick_tick (p : Params) (d : Nat) (s : State) :
    (advanceTick p d s).tick = BitVec.ofNat 32 ((s.tick.toNat + d) % 2 ^ p.tickBits) := rfl
@[simp] theorem advanceTick_pins (p : Params) (d : Nat) (s : State) : (advanceTick p d s).pins = s.pins := rfl
@[simp] theorem advanceTick_hidden (p : Params) (d : Nat) (s : State) : (advanceTick p d s).hidden = s.hidden := rfl
@[simp] theorem advanceTick_seq (p : Params) (d : Nat) (s : State) : (advanceTick p d s).seq = s.seq := rfl
@[simp] theorem advanceTick_trace (p : Params) (d : Nat) (s : State) : (advanceTick p d s).trace = s.trace := rfl
@[simp] theorem advanceTick_answers (p : Params) (d : Nat) (s : State) : (advanceTick p d s).answers = s.answers := rfl
@[simp] theorem advanceTick_draws (p : Params) (d : Nat) (s : State) : (advanceTick p d s).draws = s.draws := rfl
@[simp] theorem advanceTick_host (p : Params) (d : Nat) (s : State) : (advanceTick p d s).host = s.host := rfl
@[simp] theorem advanceTick_hostData (p : Params) (d : Nat) (s : State) : (advanceTick p d s).hostData = s.hostData := rfl
@[simp] theorem advanceTick_probe (p : Params) (d : Nat) (s : State) : (advanceTick p d s).probe = s.probe := rfl

@[simp] theorem delayUs_flags (p : Params) (n : Nat) (s : State) : (delayUs p n s).flags = s.flags := rfl
@[simp] theorem delayUs_regs (p : Params) (n : Nat) (s : State) : (delayUs p n s).regs = s.regs := rfl
@[simp] theorem delayUs_tick (p : Params) (n : Nat) (s : State) :
    (delayUs p n s).tick =
      BitVec.ofNat 32 ((s.tick.toNat + tickAdvance p n (Config.freeExcess s.draws)) % 2 ^ p.tickBits) := rfl
@[simp] theorem delayUs_pins (p : Params) (n : Nat) (s : State) : (delayUs p n s).pins = s.pins := rfl
@[simp] theorem delayUs_hidden (p : Params) (n : Nat) (s : State) : (delayUs p n s).hidden = s.hidden := rfl
@[simp] theorem delayUs_seq (p : Params) (n : Nat) (s : State) : (delayUs p n s).seq = s.seq := rfl
@[simp] theorem delayUs_trace (p : Params) (n : Nat) (s : State) : (delayUs p n s).trace = s.trace ++ [.delay n] := rfl
@[simp] theorem delayUs_answers (p : Params) (n : Nat) (s : State) : (delayUs p n s).answers = s.answers := rfl
@[simp] theorem delayUs_draws (p : Params) (n : Nat) (s : State) : (delayUs p n s).draws = s.draws + 1 := rfl
@[simp] theorem delayUs_host (p : Params) (n : Nat) (s : State) : (delayUs p n s).host = s.host := rfl
@[simp] theorem delayUs_hostData (p : Params) (n : Nat) (s : State) : (delayUs p n s).hostData = s.hostData := rfl
@[simp] theorem delayUs_probe (p : Params) (n : Nat) (s : State) : (delayUs p n s).probe = s.probe := rfl

@[simp] theorem idleTime_flags (p : Params) (s : State) : (idleTime p s).flags = s.flags := rfl
@[simp] theorem idleTime_regs (p : Params) (s : State) : (idleTime p s).regs = s.regs := rfl
@[simp] theorem idleTime_tick (p : Params) (s : State) :
    (idleTime p s).tick =
      BitVec.ofNat 32 ((s.tick.toNat + Config.freeElapsed s.draws) % 2 ^ p.tickBits) := rfl
@[simp] theorem idleTime_pins (p : Params) (s : State) : (idleTime p s).pins = s.pins := rfl
@[simp] theorem idleTime_hidden (p : Params) (s : State) : (idleTime p s).hidden = s.hidden := rfl
@[simp] theorem idleTime_seq (p : Params) (s : State) : (idleTime p s).seq = s.seq := rfl
@[simp] theorem idleTime_trace (p : Params) (s : State) : (idleTime p s).trace = s.trace := rfl
@[simp] theorem idleTime_answers (p : Params) (s : State) : (idleTime p s).answers = s.answers := rfl
@[simp] theorem idleTime_draws (p : Params) (s : State) : (idleTime p s).draws = s.draws + 1 := rfl
@[simp] theorem idleTime_host (p : Params) (s : State) : (idleTime p s).host = s.host := rfl
@[simp] theorem idleTime_hostData (p : Params) (s : State) : (idleTime p s).hostData = s.hostData := rfl
@[simp] theorem idleTime_probe (p : Params) (s : State) : (idleTime p s).probe = s.probe := rfl

@[simp] theorem beginCommand_flags (s : State) :
    (beginCommand s).flags = { s.flags with ill := false, busy := true } := rfl
@[simp] theorem beginCommand_regs (s : State) : (beginCommand s).regs = s.regs := rfl
@[simp] theorem beginCommand_tick (s : State) : (beginCommand s).tick = s.tick := rfl
@[simp] theorem beginCommand_pins (s : State) : (beginCommand s).pins = s.pins := rfl
@[simp] theorem beginCommand_hidden (s : State) : (beginCommand s).hidden = s.hidden := rfl
@[simp] theorem beginCommand_seq (s : State) : (beginCommand s).seq = s.seq := rfl
@[simp] theorem beginCommand_trace (s : State) : (beginCommand s).trace = s.trace := rfl
@[simp] theorem beginCommand_answers (s : State) : (beginCommand s).answers = s.answers := rfl
@[simp] theorem beginCommand_draws (s : State) : (beginCommand s).draws = s.draws := rfl
@[simp] theorem beginCommand_host (s : State) : (beginCommand s).host = s.host := rfl
@[simp] theorem beginCommand_hostData (s : State) : (beginCommand s).hostData = s.hostData := rfl
@[simp] theorem beginCommand_probe (s : State) : (beginCommand s).probe = s.probe := rfl

@[simp] theorem endCommand_flags (s : State) : (endCommand s).flags = { s.flags with busy := false } := rfl
@[simp] theorem endCommand_regs (s : State) : (endCommand s).regs = s.regs := rfl
@[simp] theorem endCommand_tick (s : State) : (endCommand s).tick = s.tick := rfl
@[simp] theorem endCommand_pins (s : State) : (endCommand s).pins = s.pins := rfl
@[simp] theorem endCommand_hidden (s : State) : (endCommand s).hidden = s.hidden := rfl
@[simp] theorem endCommand_seq (s : State) : (endCommand s).seq = Seq.idle := rfl
@[simp] theorem endCommand_trace (s : State) : (endCommand s).trace = s.trace := rfl
@[simp] theorem endCommand_answers (s : State) : (endCommand s).answers = s.answers := rfl
@[simp] theorem endCommand_draws (s : State) : (endCommand s).draws = s.draws := rfl
@[simp] theorem endCommand_host (s : State) : (endCommand s).host = s.host := rfl
@[simp] theorem endCommand_hostData (s : State) : (endCommand s).hostData = s.hostData := rfl
@[simp] theorem endCommand_probe (s : State) : (endCommand s).probe = s.probe := rfl

@[simp] theorem setPres_flags (code : Byte) (s : State) : (setPres code s).flags = s.flags := rfl
@[simp] theorem setPres_regs (code : Byte) (s : State) :
    (setPres code s).regs = { s.regs with pres := code } := rfl
@[simp] theorem setPres_tick (code : Byte) (s : State) : (setPres code s).tick = s.tick := rfl
@[simp] theorem setPres_pins (code : Byte) (s : State) : (setPres code s).pins = s.pins := rfl
@[simp] theorem setPres_hidden (code : Byte) (s : State) : (setPres code s).hidden = s.hidden := rfl
@[simp] theorem setPres_seq (code : Byte) (s : State) : (setPres code s).seq = s.seq := rfl
@[simp] theorem setPres_trace (code : Byte) (s : State) : (setPres code s).trace = s.trace := rfl
@[simp] theorem setPres_answers (code : Byte) (s : State) : (setPres code s).answers = s.answers := rfl
@[simp] theorem setPres_draws (code : Byte) (s : State) : (setPres code s).draws = s.draws := rfl
@[simp] theorem setPres_host (code : Byte) (s : State) : (setPres code s).host = s.host := rfl
@[simp] theorem setPres_hostData (code : Byte) (s : State) : (setPres code s).hostData = s.hostData := rfl
@[simp] theorem setPres_probe (code : Byte) (s : State) : (setPres code s).probe = s.probe := rfl

@[simp] theorem setFrame_flags (k : FrameIx) (b : Byte) (s : State) :
    (setFrame k b s).flags = s.flags := by cases k <;> rfl
@[simp] theorem setFrame_tick (k : FrameIx) (b : Byte) (s : State) :
    (setFrame k b s).tick = s.tick := by cases k <;> rfl
@[simp] theorem setFrame_pins (k : FrameIx) (b : Byte) (s : State) :
    (setFrame k b s).pins = s.pins := by cases k <;> rfl
@[simp] theorem setFrame_hidden (k : FrameIx) (b : Byte) (s : State) :
    (setFrame k b s).hidden = s.hidden := by cases k <;> rfl
@[simp] theorem setFrame_seq (k : FrameIx) (b : Byte) (s : State) :
    (setFrame k b s).seq = s.seq := by cases k <;> rfl
@[simp] theorem setFrame_trace (k : FrameIx) (b : Byte) (s : State) :
    (setFrame k b s).trace = s.trace := by cases k <;> rfl
@[simp] theorem setFrame_answers (k : FrameIx) (b : Byte) (s : State) :
    (setFrame k b s).answers = s.answers := by cases k <;> rfl
@[simp] theorem setFrame_draws (k : FrameIx) (b : Byte) (s : State) :
    (setFrame k b s).draws = s.draws := by cases k <;> rfl
@[simp] theorem setFrame_host (k : FrameIx) (b : Byte) (s : State) :
    (setFrame k b s).host = s.host := by cases k <;> rfl
@[simp] theorem setFrame_hostData (k : FrameIx) (b : Byte) (s : State) :
    (setFrame k b s).hostData = s.hostData := by cases k <;> rfl
@[simp] theorem setFrame_probe (k : FrameIx) (b : Byte) (s : State) :
    (setFrame k b s).probe = s.probe := by cases k <;> rfl

@[simp] theorem setTime_flags (f : TimeField) (b : Byte) (s : State) :
    (setTime f b s).flags = s.flags := by cases f <;> rfl
@[simp] theorem setTime_tick (f : TimeField) (b : Byte) (s : State) :
    (setTime f b s).tick = s.tick := by cases f <;> rfl
@[simp] theorem setTime_pins (f : TimeField) (b : Byte) (s : State) :
    (setTime f b s).pins = s.pins := by cases f <;> rfl
@[simp] theorem setTime_hidden (f : TimeField) (b : Byte) (s : State) :
    (setTime f b s).hidden = s.hidden := by cases f <;> rfl
@[simp] theorem setTime_seq (f : TimeField) (b : Byte) (s : State) :
    (setTime f b s).seq = s.seq := by cases f <;> rfl
@[simp] theorem setTime_trace (f : TimeField) (b : Byte) (s : State) :
    (setTime f b s).trace = s.trace := by cases f <;> rfl
@[simp] theorem setTime_answers (f : TimeField) (b : Byte) (s : State) :
    (setTime f b s).answers = s.answers := by cases f <;> rfl
@[simp] theorem setTime_draws (f : TimeField) (b : Byte) (s : State) :
    (setTime f b s).draws = s.draws := by cases f <;> rfl
@[simp] theorem setTime_host (f : TimeField) (b : Byte) (s : State) :
    (setTime f b s).host = s.host := by cases f <;> rfl
@[simp] theorem setTime_hostData (f : TimeField) (b : Byte) (s : State) :
    (setTime f b s).hostData = s.hostData := by cases f <;> rfl
@[simp] theorem setTime_probe (f : TimeField) (b : Byte) (s : State) :
    (setTime f b s).probe = s.probe := by cases f <;> rfl

@[simp] theorem setRdata_flags (b : Byte) (s : State) : (setRdata b s).flags = s.flags := rfl
@[simp] theorem setRdata_regs (b : Byte) (s : State) : (setRdata b s).regs = { s.regs with rdata := b } := rfl
@[simp] theorem setRdata_tick (b : Byte) (s : State) : (setRdata b s).tick = s.tick := rfl
@[simp] theorem setRdata_pins (b : Byte) (s : State) : (setRdata b s).pins = s.pins := rfl
@[simp] theorem setRdata_hidden (b : Byte) (s : State) : (setRdata b s).hidden = s.hidden := rfl
@[simp] theorem setRdata_seq (b : Byte) (s : State) : (setRdata b s).seq = s.seq := rfl
@[simp] theorem setRdata_trace (b : Byte) (s : State) : (setRdata b s).trace = s.trace := rfl
@[simp] theorem setRdata_answers (b : Byte) (s : State) : (setRdata b s).answers = s.answers := rfl
@[simp] theorem setRdata_draws (b : Byte) (s : State) : (setRdata b s).draws = s.draws := rfl
@[simp] theorem setRdata_host (b : Byte) (s : State) : (setRdata b s).host = s.host := rfl
@[simp] theorem setRdata_hostData (b : Byte) (s : State) : (setRdata b s).hostData = s.hostData := rfl
@[simp] theorem setRdata_probe (b : Byte) (s : State) : (setRdata b s).probe = s.probe := rfl

@[simp] theorem takeReading_flags (s : State) : (takeReading s).flags = s.flags := rfl
@[simp] theorem takeReading_regs (s : State) :
    (takeReading s).regs = { s.regs with hum := s.regs.frame0, temp := s.regs.frame2 } := rfl
@[simp] theorem takeReading_tick (s : State) : (takeReading s).tick = s.tick := rfl
@[simp] theorem takeReading_pins (s : State) : (takeReading s).pins = s.pins := rfl
@[simp] theorem takeReading_hidden (s : State) : (takeReading s).hidden = s.hidden := rfl
@[simp] theorem takeReading_seq (s : State) : (takeReading s).seq = s.seq := rfl
@[simp] theorem takeReading_trace (s : State) : (takeReading s).trace = s.trace := rfl
@[simp] theorem takeReading_answers (s : State) : (takeReading s).answers = s.answers := rfl
@[simp] theorem takeReading_draws (s : State) : (takeReading s).draws = s.draws := rfl
@[simp] theorem takeReading_host (s : State) : (takeReading s).host = s.host := rfl
@[simp] theorem takeReading_hostData (s : State) : (takeReading s).hostData = s.hostData := rfl
@[simp] theorem takeReading_probe (s : State) : (takeReading s).probe = s.probe := rfl

@[simp] theorem setCkok_flags (b : Bool) (s : State) : (setCkok b s).flags = { s.flags with ckok := b } := rfl
@[simp] theorem setCkok_regs (b : Bool) (s : State) : (setCkok b s).regs = s.regs := rfl
@[simp] theorem setCkok_tick (b : Bool) (s : State) : (setCkok b s).tick = s.tick := rfl
@[simp] theorem setCkok_pins (b : Bool) (s : State) : (setCkok b s).pins = s.pins := rfl
@[simp] theorem setCkok_hidden (b : Bool) (s : State) : (setCkok b s).hidden = s.hidden := rfl
@[simp] theorem setCkok_seq (b : Bool) (s : State) : (setCkok b s).seq = s.seq := rfl
@[simp] theorem setCkok_trace (b : Bool) (s : State) : (setCkok b s).trace = s.trace := rfl
@[simp] theorem setCkok_answers (b : Bool) (s : State) : (setCkok b s).answers = s.answers := rfl
@[simp] theorem setCkok_draws (b : Bool) (s : State) : (setCkok b s).draws = s.draws := rfl
@[simp] theorem setCkok_host (b : Bool) (s : State) : (setCkok b s).host = s.host := rfl
@[simp] theorem setCkok_hostData (b : Bool) (s : State) : (setCkok b s).hostData = s.hostData := rfl
@[simp] theorem setCkok_probe (b : Bool) (s : State) : (setCkok b s).probe = s.probe := rfl

@[simp] theorem markIllegal_flags (s : State) : (markIllegal s).flags = { s.flags with ill := true } := rfl
@[simp] theorem markIllegal_regs (s : State) : (markIllegal s).regs = s.regs := rfl
@[simp] theorem markIllegal_tick (s : State) : (markIllegal s).tick = s.tick := rfl
@[simp] theorem markIllegal_pins (s : State) : (markIllegal s).pins = s.pins := rfl
@[simp] theorem markIllegal_hidden (s : State) : (markIllegal s).hidden = s.hidden := rfl
@[simp] theorem markIllegal_seq (s : State) : (markIllegal s).seq = s.seq := rfl
@[simp] theorem markIllegal_trace (s : State) : (markIllegal s).trace = s.trace := rfl
@[simp] theorem markIllegal_answers (s : State) : (markIllegal s).answers = s.answers := rfl
@[simp] theorem markIllegal_draws (s : State) : (markIllegal s).draws = s.draws := rfl
@[simp] theorem markIllegal_host (s : State) : (markIllegal s).host = s.host := rfl
@[simp] theorem markIllegal_hostData (s : State) : (markIllegal s).hostData = s.hostData := rfl
@[simp] theorem markIllegal_probe (s : State) : (markIllegal s).probe = s.probe := rfl

@[simp] theorem clearV_flags (s : State) : (clearV s).flags = s.flags := rfl
@[simp] theorem clearV_regs (s : State) : (clearV s).regs = s.regs := rfl
@[simp] theorem clearV_tick (s : State) : (clearV s).tick = s.tick := rfl
@[simp] theorem clearV_pins (s : State) : (clearV s).pins = s.pins := rfl
@[simp] theorem clearV_hidden (s : State) : (clearV s).hidden = { s.hidden with v := 0 } := rfl
@[simp] theorem clearV_seq (s : State) : (clearV s).seq = s.seq := rfl
@[simp] theorem clearV_trace (s : State) : (clearV s).trace = s.trace := rfl
@[simp] theorem clearV_answers (s : State) : (clearV s).answers = s.answers := rfl
@[simp] theorem clearV_draws (s : State) : (clearV s).draws = s.draws := rfl
@[simp] theorem clearV_host (s : State) : (clearV s).host = s.host := rfl
@[simp] theorem clearV_hostData (s : State) : (clearV s).hostData = s.hostData := rfl
@[simp] theorem clearV_probe (s : State) : (clearV s).probe = s.probe := rfl

@[simp] theorem orBit_flags (p : Params) (r : Level) (j : Nat) (s : State) : (orBit p r j s).flags = s.flags := rfl
@[simp] theorem orBit_regs (p : Params) (r : Level) (j : Nat) (s : State) : (orBit p r j s).regs = s.regs := rfl
@[simp] theorem orBit_tick (p : Params) (r : Level) (j : Nat) (s : State) : (orBit p r j s).tick = s.tick := rfl
@[simp] theorem orBit_pins (p : Params) (r : Level) (j : Nat) (s : State) : (orBit p r j s).pins = s.pins := rfl
@[simp] theorem orBit_hidden (p : Params) (r : Level) (j : Nat) (s : State) :
    (orBit p r j s).hidden = { s.hidden with v := s.hidden.v ||| levelByte r <<< (p.byteBits - 1 - j) } := rfl
@[simp] theorem orBit_seq (p : Params) (r : Level) (j : Nat) (s : State) : (orBit p r j s).seq = s.seq := rfl
@[simp] theorem orBit_trace (p : Params) (r : Level) (j : Nat) (s : State) : (orBit p r j s).trace = s.trace := rfl
@[simp] theorem orBit_answers (p : Params) (r : Level) (j : Nat) (s : State) : (orBit p r j s).answers = s.answers := rfl
@[simp] theorem orBit_draws (p : Params) (r : Level) (j : Nat) (s : State) : (orBit p r j s).draws = s.draws := rfl
@[simp] theorem orBit_host (p : Params) (r : Level) (j : Nat) (s : State) : (orBit p r j s).host = s.host := rfl
@[simp] theorem orBit_hostData (p : Params) (r : Level) (j : Nat) (s : State) : (orBit p r j s).hostData = s.hostData := rfl
@[simp] theorem orBit_probe (p : Params) (r : Level) (j : Nat) (s : State) : (orBit p r j s).probe = s.probe := rfl

@[simp] theorem loadSh_flags (b : Byte) (s : State) : (loadSh b s).flags = s.flags := rfl
@[simp] theorem loadSh_regs (b : Byte) (s : State) : (loadSh b s).regs = s.regs := rfl
@[simp] theorem loadSh_tick (b : Byte) (s : State) : (loadSh b s).tick = s.tick := rfl
@[simp] theorem loadSh_pins (b : Byte) (s : State) : (loadSh b s).pins = s.pins := rfl
@[simp] theorem loadSh_hidden (b : Byte) (s : State) : (loadSh b s).hidden = { s.hidden with sh := b } := rfl
@[simp] theorem loadSh_seq (b : Byte) (s : State) : (loadSh b s).seq = s.seq := rfl
@[simp] theorem loadSh_trace (b : Byte) (s : State) : (loadSh b s).trace = s.trace := rfl
@[simp] theorem loadSh_answers (b : Byte) (s : State) : (loadSh b s).answers = s.answers := rfl
@[simp] theorem loadSh_draws (b : Byte) (s : State) : (loadSh b s).draws = s.draws := rfl
@[simp] theorem loadSh_host (b : Byte) (s : State) : (loadSh b s).host = s.host := rfl
@[simp] theorem loadSh_hostData (b : Byte) (s : State) : (loadSh b s).hostData = s.hostData := rfl
@[simp] theorem loadSh_probe (b : Byte) (s : State) : (loadSh b s).probe = s.probe := rfl

@[simp] theorem shiftSh_flags (s : State) : (shiftSh s).flags = s.flags := rfl
@[simp] theorem shiftSh_regs (s : State) : (shiftSh s).regs = s.regs := rfl
@[simp] theorem shiftSh_tick (s : State) : (shiftSh s).tick = s.tick := rfl
@[simp] theorem shiftSh_pins (s : State) : (shiftSh s).pins = s.pins := rfl
@[simp] theorem shiftSh_hidden (s : State) : (shiftSh s).hidden = { s.hidden with sh := s.hidden.sh >>> 1 } := rfl
@[simp] theorem shiftSh_seq (s : State) : (shiftSh s).seq = s.seq := rfl
@[simp] theorem shiftSh_trace (s : State) : (shiftSh s).trace = s.trace := rfl
@[simp] theorem shiftSh_answers (s : State) : (shiftSh s).answers = s.answers := rfl
@[simp] theorem shiftSh_draws (s : State) : (shiftSh s).draws = s.draws := rfl
@[simp] theorem shiftSh_host (s : State) : (shiftSh s).host = s.host := rfl
@[simp] theorem shiftSh_hostData (s : State) : (shiftSh s).hostData = s.hostData := rfl
@[simp] theorem shiftSh_probe (s : State) : (shiftSh s).probe = s.probe := rfl

@[simp] theorem clearAcc_flags (s : State) : (clearAcc s).flags = s.flags := rfl
@[simp] theorem clearAcc_regs (s : State) : (clearAcc s).regs = s.regs := rfl
@[simp] theorem clearAcc_tick (s : State) : (clearAcc s).tick = s.tick := rfl
@[simp] theorem clearAcc_pins (s : State) : (clearAcc s).pins = s.pins := rfl
@[simp] theorem clearAcc_hidden (s : State) : (clearAcc s).hidden = { s.hidden with acc := 0 } := rfl
@[simp] theorem clearAcc_seq (s : State) : (clearAcc s).seq = s.seq := rfl
@[simp] theorem clearAcc_trace (s : State) : (clearAcc s).trace = s.trace := rfl
@[simp] theorem clearAcc_answers (s : State) : (clearAcc s).answers = s.answers := rfl
@[simp] theorem clearAcc_draws (s : State) : (clearAcc s).draws = s.draws := rfl
@[simp] theorem clearAcc_host (s : State) : (clearAcc s).host = s.host := rfl
@[simp] theorem clearAcc_hostData (s : State) : (clearAcc s).hostData = s.hostData := rfl
@[simp] theorem clearAcc_probe (s : State) : (clearAcc s).probe = s.probe := rfl

@[simp] theorem shiftAcc_flags (s : State) : (shiftAcc s).flags = s.flags := rfl
@[simp] theorem shiftAcc_regs (s : State) : (shiftAcc s).regs = s.regs := rfl
@[simp] theorem shiftAcc_tick (s : State) : (shiftAcc s).tick = s.tick := rfl
@[simp] theorem shiftAcc_pins (s : State) : (shiftAcc s).pins = s.pins := rfl
@[simp] theorem shiftAcc_hidden (s : State) :
    (shiftAcc s).hidden = { s.hidden with acc := s.hidden.acc >>> 1 } := rfl
@[simp] theorem shiftAcc_seq (s : State) : (shiftAcc s).seq = s.seq := rfl
@[simp] theorem shiftAcc_trace (s : State) : (shiftAcc s).trace = s.trace := rfl
@[simp] theorem shiftAcc_answers (s : State) : (shiftAcc s).answers = s.answers := rfl
@[simp] theorem shiftAcc_draws (s : State) : (shiftAcc s).draws = s.draws := rfl
@[simp] theorem shiftAcc_host (s : State) : (shiftAcc s).host = s.host := rfl
@[simp] theorem shiftAcc_hostData (s : State) : (shiftAcc s).hostData = s.hostData := rfl
@[simp] theorem shiftAcc_probe (s : State) : (shiftAcc s).probe = s.probe := rfl

@[simp] theorem orAcc_flags (p : Params) (v : Level) (s : State) : (orAcc p v s).flags = s.flags := rfl
@[simp] theorem orAcc_regs (p : Params) (v : Level) (s : State) : (orAcc p v s).regs = s.regs := rfl
@[simp] theorem orAcc_tick (p : Params) (v : Level) (s : State) : (orAcc p v s).tick = s.tick := rfl
@[simp] theorem orAcc_pins (p : Params) (v : Level) (s : State) : (orAcc p v s).pins = s.pins := rfl
@[simp] theorem orAcc_hidden (p : Params) (v : Level) (s : State) :
    (orAcc p v s).hidden = { s.hidden with acc := s.hidden.acc ||| levelByte v <<< (p.byteBits - 1) } := rfl
@[simp] theorem orAcc_seq (p : Params) (v : Level) (s : State) : (orAcc p v s).seq = s.seq := rfl
@[simp] theorem orAcc_trace (p : Params) (v : Level) (s : State) : (orAcc p v s).trace = s.trace := rfl
@[simp] theorem orAcc_answers (p : Params) (v : Level) (s : State) : (orAcc p v s).answers = s.answers := rfl
@[simp] theorem orAcc_draws (p : Params) (v : Level) (s : State) : (orAcc p v s).draws = s.draws := rfl
@[simp] theorem orAcc_host (p : Params) (v : Level) (s : State) : (orAcc p v s).host = s.host := rfl
@[simp] theorem orAcc_hostData (p : Params) (v : Level) (s : State) : (orAcc p v s).hostData = s.hostData := rfl
@[simp] theorem orAcc_probe (p : Params) (v : Level) (s : State) : (orAcc p v s).probe = s.probe := rfl

@[simp] theorem goto_flags (ph : Phase) (s : State) : (goto ph s).flags = s.flags := rfl
@[simp] theorem goto_regs (ph : Phase) (s : State) : (goto ph s).regs = s.regs := rfl
@[simp] theorem goto_tick (ph : Phase) (s : State) : (goto ph s).tick = s.tick := rfl
@[simp] theorem goto_pins (ph : Phase) (s : State) : (goto ph s).pins = s.pins := rfl
@[simp] theorem goto_hidden (ph : Phase) (s : State) : (goto ph s).hidden = s.hidden := rfl
@[simp] theorem goto_seq (ph : Phase) (s : State) : (goto ph s).seq = { s.seq with phase := ph } := rfl
@[simp] theorem goto_trace (ph : Phase) (s : State) : (goto ph s).trace = s.trace := rfl
@[simp] theorem goto_answers (ph : Phase) (s : State) : (goto ph s).answers = s.answers := rfl
@[simp] theorem goto_draws (ph : Phase) (s : State) : (goto ph s).draws = s.draws := rfl
@[simp] theorem goto_host (ph : Phase) (s : State) : (goto ph s).host = s.host := rfl
@[simp] theorem goto_hostData (ph : Phase) (s : State) : (goto ph s).hostData = s.hostData := rfl
@[simp] theorem goto_probe (ph : Phase) (s : State) : (goto ph s).probe = s.probe := rfl

@[simp] theorem setSpin_flags (n : Nat) (s : State) : (setSpin n s).flags = s.flags := rfl
@[simp] theorem setSpin_regs (n : Nat) (s : State) : (setSpin n s).regs = s.regs := rfl
@[simp] theorem setSpin_tick (n : Nat) (s : State) : (setSpin n s).tick = s.tick := rfl
@[simp] theorem setSpin_pins (n : Nat) (s : State) : (setSpin n s).pins = s.pins := rfl
@[simp] theorem setSpin_hidden (n : Nat) (s : State) : (setSpin n s).hidden = s.hidden := rfl
@[simp] theorem setSpin_seq (n : Nat) (s : State) : (setSpin n s).seq = { s.seq with spin := n } := rfl
@[simp] theorem setSpin_trace (n : Nat) (s : State) : (setSpin n s).trace = s.trace := rfl
@[simp] theorem setSpin_answers (n : Nat) (s : State) : (setSpin n s).answers = s.answers := rfl
@[simp] theorem setSpin_draws (n : Nat) (s : State) : (setSpin n s).draws = s.draws := rfl
@[simp] theorem setSpin_host (n : Nat) (s : State) : (setSpin n s).host = s.host := rfl
@[simp] theorem setSpin_hostData (n : Nat) (s : State) : (setSpin n s).hostData = s.hostData := rfl
@[simp] theorem setSpin_probe (n : Nat) (s : State) : (setSpin n s).probe = s.probe := rfl

@[simp] theorem setResp_flags (c : Byte) (s : State) : (setResp c s).flags = s.flags := rfl
@[simp] theorem setResp_regs (c : Byte) (s : State) : (setResp c s).regs = s.regs := rfl
@[simp] theorem setResp_tick (c : Byte) (s : State) : (setResp c s).tick = s.tick := rfl
@[simp] theorem setResp_pins (c : Byte) (s : State) : (setResp c s).pins = s.pins := rfl
@[simp] theorem setResp_hidden (c : Byte) (s : State) : (setResp c s).hidden = s.hidden := rfl
@[simp] theorem setResp_seq (c : Byte) (s : State) : (setResp c s).seq = { s.seq with resp := c } := rfl
@[simp] theorem setResp_trace (c : Byte) (s : State) : (setResp c s).trace = s.trace := rfl
@[simp] theorem setResp_answers (c : Byte) (s : State) : (setResp c s).answers = s.answers := rfl
@[simp] theorem setResp_draws (c : Byte) (s : State) : (setResp c s).draws = s.draws := rfl
@[simp] theorem setResp_host (c : Byte) (s : State) : (setResp c s).host = s.host := rfl
@[simp] theorem setResp_hostData (c : Byte) (s : State) : (setResp c s).hostData = s.hostData := rfl
@[simp] theorem setResp_probe (c : Byte) (s : State) : (setResp c s).probe = s.probe := rfl

@[simp] theorem setBit_flags (j : Fin 8) (s : State) : (setBit j s).flags = s.flags := rfl
@[simp] theorem setBit_regs (j : Fin 8) (s : State) : (setBit j s).regs = s.regs := rfl
@[simp] theorem setBit_tick (j : Fin 8) (s : State) : (setBit j s).tick = s.tick := rfl
@[simp] theorem setBit_pins (j : Fin 8) (s : State) : (setBit j s).pins = s.pins := rfl
@[simp] theorem setBit_hidden (j : Fin 8) (s : State) : (setBit j s).hidden = s.hidden := rfl
@[simp] theorem setBit_seq (j : Fin 8) (s : State) : (setBit j s).seq = { s.seq with bit := j } := rfl
@[simp] theorem setBit_trace (j : Fin 8) (s : State) : (setBit j s).trace = s.trace := rfl
@[simp] theorem setBit_answers (j : Fin 8) (s : State) : (setBit j s).answers = s.answers := rfl
@[simp] theorem setBit_draws (j : Fin 8) (s : State) : (setBit j s).draws = s.draws := rfl
@[simp] theorem setBit_host (j : Fin 8) (s : State) : (setBit j s).host = s.host := rfl
@[simp] theorem setBit_hostData (j : Fin 8) (s : State) : (setBit j s).hostData = s.hostData := rfl
@[simp] theorem setBit_probe (j : Fin 8) (s : State) : (setBit j s).probe = s.probe := rfl

@[simp] theorem setByte_flags (k : FrameIx) (s : State) : (setByte k s).flags = s.flags := rfl
@[simp] theorem setByte_regs (k : FrameIx) (s : State) : (setByte k s).regs = s.regs := rfl
@[simp] theorem setByte_tick (k : FrameIx) (s : State) : (setByte k s).tick = s.tick := rfl
@[simp] theorem setByte_pins (k : FrameIx) (s : State) : (setByte k s).pins = s.pins := rfl
@[simp] theorem setByte_hidden (k : FrameIx) (s : State) : (setByte k s).hidden = s.hidden := rfl
@[simp] theorem setByte_seq (k : FrameIx) (s : State) : (setByte k s).seq = { s.seq with byte := k } := rfl
@[simp] theorem setByte_trace (k : FrameIx) (s : State) : (setByte k s).trace = s.trace := rfl
@[simp] theorem setByte_answers (k : FrameIx) (s : State) : (setByte k s).answers = s.answers := rfl
@[simp] theorem setByte_draws (k : FrameIx) (s : State) : (setByte k s).draws = s.draws := rfl
@[simp] theorem setByte_host (k : FrameIx) (s : State) : (setByte k s).host = s.host := rfl
@[simp] theorem setByte_hostData (k : FrameIx) (s : State) : (setByte k s).hostData = s.hostData := rfl
@[simp] theorem setByte_probe (k : FrameIx) (s : State) : (setByte k s).probe = s.probe := rfl

@[simp] theorem setTxByte_flags (b : TxByte) (s : State) : (setTxByte b s).flags = s.flags := rfl
@[simp] theorem setTxByte_regs (b : TxByte) (s : State) : (setTxByte b s).regs = s.regs := rfl
@[simp] theorem setTxByte_tick (b : TxByte) (s : State) : (setTxByte b s).tick = s.tick := rfl
@[simp] theorem setTxByte_pins (b : TxByte) (s : State) : (setTxByte b s).pins = s.pins := rfl
@[simp] theorem setTxByte_hidden (b : TxByte) (s : State) : (setTxByte b s).hidden = s.hidden := rfl
@[simp] theorem setTxByte_seq (b : TxByte) (s : State) : (setTxByte b s).seq = { s.seq with txByte := b } := rfl
@[simp] theorem setTxByte_trace (b : TxByte) (s : State) : (setTxByte b s).trace = s.trace := rfl
@[simp] theorem setTxByte_answers (b : TxByte) (s : State) : (setTxByte b s).answers = s.answers := rfl
@[simp] theorem setTxByte_draws (b : TxByte) (s : State) : (setTxByte b s).draws = s.draws := rfl
@[simp] theorem setTxByte_host (b : TxByte) (s : State) : (setTxByte b s).host = s.host := rfl
@[simp] theorem setTxByte_hostData (b : TxByte) (s : State) : (setTxByte b s).hostData = s.hostData := rfl
@[simp] theorem setTxByte_probe (b : TxByte) (s : State) : (setTxByte b s).probe = s.probe := rfl

@[simp] theorem setStep_flags (k : Fin 9) (s : State) : (setStep k s).flags = s.flags := rfl
@[simp] theorem setStep_regs (k : Fin 9) (s : State) : (setStep k s).regs = s.regs := rfl
@[simp] theorem setStep_tick (k : Fin 9) (s : State) : (setStep k s).tick = s.tick := rfl
@[simp] theorem setStep_pins (k : Fin 9) (s : State) : (setStep k s).pins = s.pins := rfl
@[simp] theorem setStep_hidden (k : Fin 9) (s : State) : (setStep k s).hidden = s.hidden := rfl
@[simp] theorem setStep_seq (k : Fin 9) (s : State) : (setStep k s).seq = { s.seq with step := k } := rfl
@[simp] theorem setStep_trace (k : Fin 9) (s : State) : (setStep k s).trace = s.trace := rfl
@[simp] theorem setStep_answers (k : Fin 9) (s : State) : (setStep k s).answers = s.answers := rfl
@[simp] theorem setStep_draws (k : Fin 9) (s : State) : (setStep k s).draws = s.draws := rfl
@[simp] theorem setStep_host (k : Fin 9) (s : State) : (setStep k s).host = s.host := rfl
@[simp] theorem setStep_hostData (k : Fin 9) (s : State) : (setStep k s).hostData = s.hostData := rfl
@[simp] theorem setStep_probe (k : Fin 9) (s : State) : (setStep k s).probe = s.probe := rfl

@[simp] theorem setSampled_flags (v : Level) (s : State) : (setSampled v s).flags = s.flags := rfl
@[simp] theorem setSampled_regs (v : Level) (s : State) : (setSampled v s).regs = s.regs := rfl
@[simp] theorem setSampled_tick (v : Level) (s : State) : (setSampled v s).tick = s.tick := rfl
@[simp] theorem setSampled_pins (v : Level) (s : State) : (setSampled v s).pins = s.pins := rfl
@[simp] theorem setSampled_hidden (v : Level) (s : State) : (setSampled v s).hidden = s.hidden := rfl
@[simp] theorem setSampled_seq (v : Level) (s : State) : (setSampled v s).seq = { s.seq with sampled := v } := rfl
@[simp] theorem setSampled_trace (v : Level) (s : State) : (setSampled v s).trace = s.trace := rfl
@[simp] theorem setSampled_answers (v : Level) (s : State) : (setSampled v s).answers = s.answers := rfl
@[simp] theorem setSampled_draws (v : Level) (s : State) : (setSampled v s).draws = s.draws := rfl
@[simp] theorem setSampled_host (v : Level) (s : State) : (setSampled v s).host = s.host := rfl
@[simp] theorem setSampled_hostData (v : Level) (s : State) : (setSampled v s).hostData = s.hostData := rfl
@[simp] theorem setSampled_probe (v : Level) (s : State) : (setSampled v s).probe = s.probe := rfl

@[simp] theorem giveHost_flags (w : Word32) (s : State) : (giveHost w s).flags = s.flags := rfl
@[simp] theorem giveHost_regs (w : Word32) (s : State) : (giveHost w s).regs = s.regs := rfl
@[simp] theorem giveHost_tick (w : Word32) (s : State) : (giveHost w s).tick = s.tick := rfl
@[simp] theorem giveHost_pins (w : Word32) (s : State) : (giveHost w s).pins = s.pins := rfl
@[simp] theorem giveHost_hidden (w : Word32) (s : State) : (giveHost w s).hidden = s.hidden := rfl
@[simp] theorem giveHost_seq (w : Word32) (s : State) : (giveHost w s).seq = s.seq := rfl
@[simp] theorem giveHost_trace (w : Word32) (s : State) : (giveHost w s).trace = s.trace := rfl
@[simp] theorem giveHost_answers (w : Word32) (s : State) : (giveHost w s).answers = s.answers := rfl
@[simp] theorem giveHost_draws (w : Word32) (s : State) : (giveHost w s).draws = s.draws := rfl
@[simp] theorem giveHost_host (w : Word32) (s : State) : (giveHost w s).host = s.host := rfl
@[simp] theorem giveHost_hostData (w : Word32) (s : State) : (giveHost w s).hostData = w := rfl
@[simp] theorem giveHost_probe (w : Word32) (s : State) : (giveHost w s).probe = s.probe := rfl

@[simp] theorem countDraw_flags (s : State) : (countDraw s).flags = s.flags := rfl
@[simp] theorem countDraw_regs (s : State) : (countDraw s).regs = s.regs := rfl
@[simp] theorem countDraw_tick (s : State) : (countDraw s).tick = s.tick := rfl
@[simp] theorem countDraw_pins (s : State) : (countDraw s).pins = s.pins := rfl
@[simp] theorem countDraw_hidden (s : State) : (countDraw s).hidden = s.hidden := rfl
@[simp] theorem countDraw_seq (s : State) : (countDraw s).seq = s.seq := rfl
@[simp] theorem countDraw_trace (s : State) : (countDraw s).trace = s.trace := rfl
@[simp] theorem countDraw_answers (s : State) : (countDraw s).answers = s.answers := rfl
@[simp] theorem countDraw_draws (s : State) : (countDraw s).draws = s.draws + 1 := rfl
@[simp] theorem countDraw_host (s : State) : (countDraw s).host = s.host := rfl
@[simp] theorem countDraw_hostData (s : State) : (countDraw s).hostData = s.hostData := rfl
@[simp] theorem countDraw_probe (s : State) : (countDraw s).probe = s.probe := rfl

@[simp] theorem setMode_sw_pins (m : Mode) (s : State) : (setMode .sw m s).pins = { s.pins with swMode := m } := rfl
@[simp] theorem setMode_dat_pins (m : Mode) (s : State) : (setMode .dat m s).pins = { s.pins with datMode := m } := rfl
@[simp] theorem setLatch_sw_pins (v : Level) (s : State) : (setLatch .sw v s).pins = { s.pins with swLatch := v } := rfl
@[simp] theorem setLatch_dat_pins (v : Level) (s : State) : (setLatch .dat v s).pins = { s.pins with datLatch := v } := rfl
@[simp] theorem setLatch_clk_pins (v : Level) (s : State) : (setLatch .clk v s).pins = { s.pins with clkLatch := v } := rfl
@[simp] theorem setLatch_ce_pins (v : Level) (s : State) : (setLatch .ce v s).pins = { s.pins with ceLatch := v } := rfl
@[simp] theorem setFrame_b0_regs (b : Byte) (s : State) : (setFrame .b0 b s).regs = { s.regs with frame0 := b } := rfl
@[simp] theorem setFrame_b1_regs (b : Byte) (s : State) : (setFrame .b1 b s).regs = { s.regs with frame1 := b } := rfl
@[simp] theorem setFrame_b2_regs (b : Byte) (s : State) : (setFrame .b2 b s).regs = { s.regs with frame2 := b } := rfl
@[simp] theorem setFrame_b3_regs (b : Byte) (s : State) : (setFrame .b3 b s).regs = { s.regs with frame3 := b } := rfl
@[simp] theorem setFrame_b4_regs (b : Byte) (s : State) : (setFrame .b4 b s).regs = { s.regs with frame4 := b } := rfl
@[simp] theorem setTime_sec_regs (b : Byte) (s : State) : (setTime .sec b s).regs = { s.regs with timeSec := b } := rfl
@[simp] theorem setTime_min_regs (b : Byte) (s : State) : (setTime .min b s).regs = { s.regs with timeMin := b } := rfl
@[simp] theorem setTime_hour_regs (b : Byte) (s : State) : (setTime .hour b s).regs = { s.regs with timeHour := b } := rfl
@[simp] theorem setTime_date_regs (b : Byte) (s : State) : (setTime .date b s).regs = { s.regs with timeDate := b } := rfl
@[simp] theorem setTime_month_regs (b : Byte) (s : State) : (setTime .month b s).regs = { s.regs with timeMonth := b } := rfl
@[simp] theorem setTime_year_regs (b : Byte) (s : State) : (setTime .year b s).regs = { s.regs with timeYear := b } := rfl

end Sys2Proof.Machine
end

