-- ==== Sys2Proof/Laws/Ops.lean ====
section
/-! SUPPORT. One lemma per shared operation that says once everything it can do: results, the timer, sampling, the
clock pulse, the shifters' iterations. -/

namespace Sys2Proof.Machine

open Sys2Proof

@[simp] theorem andThen_next {α β : Type} (a : α) (f : α → Result β) :
    Result.andThen (.next a) f = f a := rfl

@[simp] theorem andThen_refused {α β : Type} (e : Refusal) (f : α → Result β) :
    Result.andThen (.refused e) f = .refused e := rfl

@[simp] theorem mapNext_next {α β : Type} (a : α) (f : α → β) :
    Result.mapNext (.next a) f = .next (f a) := rfl

@[simp] theorem mapNext_refused {α β : Type} (e : Refusal) (f : α → β) :
    Result.mapNext (.refused e) f = .refused e := rfl

/-- A checked drive of a line in Output mode is the drive. -/
theorem drive_of_output {l : Line} {s : State} (h : modeOf l s = .output) (v : Level) :
    drive l v s = .next (driveLine l v s) := by
  simp [drive, h]

/-- A checked sample of a line in Input mode is the sample. -/
theorem sample_of_input {l : BiLine} {s : State} (h : modeOf l.line s = .input) :
    sample l s = .next (sampleLine l s) := by
  simp [sample, h]

@[simp] theorem drive_clk (v : Level) (s : State) : drive .clk v s = .next (driveLine .clk v s) := rfl

@[simp] theorem drive_ce (v : Level) (s : State) : drive .ce v s = .next (driveLine .ce v s) := rfl

/-- A delay moves the tick by at least its length. -/
theorem le_tickAdvance (p : Params) (n e : Nat) : n ≤ tickAdvance p n e := Nat.le_add_right _ _

/-- A delay shorter than the tick's period moves the tick by less than the period. -/
theorem tickAdvance_lt {p : Params} {n : Nat} (h : n < 2 ^ p.tickBits) (e : Nat) :
    tickAdvance p n e < 2 ^ p.tickBits := by
  have := Nat.mod_lt e (Nat.sub_pos_of_lt h)
  unfold tickAdvance
  omega

/-- With the default width the tick advances by word addition (R6, R19). -/
theorem advanceTick_default {p : Params} (h : p.tickBits = 32) (d : Nat) (s : State) :
    advanceTick p d s = { s with tick := s.tick + BitVec.ofNat 32 d } := by
  have : BitVec.ofNat 32 ((s.tick.toNat + d) % 2 ^ 32) = s.tick + BitVec.ofNat 32 d := by
    apply BitVec.eq_of_toNat_eq
    simp
  rw [advanceTick, h, this]

/-- A sample takes the next listed answer. -/
theorem sampleLine_listed {l : BiLine} {v : Level} {rest : List Level} {s : State} (h : s.answers = v :: rest) :
    sampleLine l s = (v, { s with answers := rest, trace := s.trace ++ [.sample l v] }) := by
  simp [sampleLine, answer, h, emit]

/-- A sample with no answer listed is a free level. -/
theorem sampleLine_free {l : BiLine} {s : State} (h : s.answers = []) :
    sampleLine l s = (Config.freeLevel s.draws,
      { s with draws := s.draws + 1, trace := s.trace ++ [.sample l (Config.freeLevel s.draws)] }) := by
  simp [sampleLine, answer, h, emit]

/-- What happens while the engine only listens to line `l`: the trace gains samples of `l` and delays; no flag, register,
pin, hidden register or sequencer field changes, nor anything of the host's. -/
structure Listens (l : BiLine) (s t : State) : Prop where
  flags : t.flags = s.flags
  regs : t.regs = s.regs
  pins : t.pins = s.pins
  hidden : t.hidden = s.hidden
  seq : t.seq = s.seq
  host : t.host = s.host
  hostData : t.hostData = s.hostData
  probe : t.probe = s.probe
  trace : ∃ es, t.trace = s.trace ++ es ∧ ∀ e ∈ es, (∃ v, e = .sample l v) ∨ ∃ n, e = .delay n

theorem Listens.refl (l : BiLine) (s : State) : Listens l s s :=
  ⟨rfl, rfl, rfl, rfl, rfl, rfl, rfl, rfl, [], by simp, by simp⟩

theorem Listens.trans {l : BiLine} {s t u : State} (h : Listens l s t) (k : Listens l t u) : Listens l s u := by
  obtain ⟨es, he, hes⟩ := h.trace
  obtain ⟨fs, hf, hfs⟩ := k.trace
  refine ⟨k.flags.trans h.flags, k.regs.trans h.regs, k.pins.trans h.pins, k.hidden.trans h.hidden,
    k.seq.trans h.seq, k.host.trans h.host, k.hostData.trans h.hostData,
    k.probe.trans h.probe, es ++ fs, ?_, ?_⟩
  · rw [hf, he, List.append_assoc]
  · intro e h'
    rcases List.mem_append.1 h' with h' | h'
    · exact hes e h'
    · exact hfs e h'

theorem listens_sampleLine (l : BiLine) (s : State) : Listens l s (sampleLine l s).2 := by
  cases h : s.answers with
  | nil => rw [sampleLine_free h]; exact ⟨rfl, rfl, rfl, rfl, rfl, rfl, rfl, rfl, _, rfl, by simp⟩
  | cons v rest => rw [sampleLine_listed h]; exact ⟨rfl, rfl, rfl, rfl, rfl, rfl, rfl, rfl, _, rfl, by simp⟩

theorem listens_delayUs (l : BiLine) (p : Params) (n : Nat) (s : State) : Listens l s (delayUs p n s) :=
  ⟨rfl, rfl, rfl, rfl, rfl, rfl, rfl, rfl, [.delay n], rfl, by simp⟩

theorem listens_spinUntil (l : BiLine) (v : Level) (n : Nat) (s : State) : Listens l s (spinUntil l v n s).2 := by
  induction n generalizing s with
  | zero => exact Listens.refl l s
  | succ n ih =>
    simp only [spinUntil]
    split
    · exact listens_sampleLine l s
    · exact (listens_sampleLine l s).trans (ih _)

theorem listens_swProbe (p : Params) (s : State) : Listens .sw s (swProbe p s).2 := by
  simp only [swProbe]
  have h1 := (listens_delayUs .sw p p.tRespWaitUs s).trans (listens_sampleLine .sw _)
  split
  · exact h1
  · have h2 := (h1.trans (listens_delayUs .sw p p.tRespHighUs _)).trans (listens_sampleLine .sw _)
    split <;> exact h2

theorem listens_swCheckResponse (p : Params) (s : State) : Listens .sw s (swCheckResponse p s).2 := by
  have h := (listens_swProbe p s).trans (listens_spinUntil .sw .low p.nResp _)
  simp only [swCheckResponse]
  split <;> rename_i heq <;> simpa [heq] using h

theorem listens_swReadBit (p : Params) (s : State) : Listens .sw s (swReadBit p s).2 := by
  have h := listens_spinUntil .sw .high p.nBitStart s
  simp only [swReadBit]
  split <;> rename_i heq <;> rw [heq] at h
  · exact h
  · have h2 := ((h.trans (listens_delayUs .sw p p.tBitSampleUs _)).trans (listens_sampleLine .sw _)).trans
      (listens_spinUntil .sw .low p.nBitEnd _)
    split <;> rename_i heq2 <;> simpa [heq2] using h2

/-- A clock pulse, whole (R140): four events, `CLK` Low, some time, nothing else. -/
theorem clkPulse_spec (p : Params) (s : State) :
    ∃ d, clkPulse p s = { s with
      pins := { s.pins with clkLatch := .low }
      trace := s.trace ++ pulseEvents p
      tick := d
      draws := s.draws + 2 } := by
  exact ⟨(clkPulse p s).tick, by simp [clkPulse, driveLine, delayUs, emit, setLatch, advanceTick, pulseEvents]⟩

/-- One iteration of `WriteByte`, whole (R141): bit 0 of `sh` on `DAT`, a pulse, `sh` shifted. -/
theorem writeBit_spec (p : Params) (s : State) :
    ∃ d, writeBit p s = { s with
      pins := { s.pins with datLatch := bitLevel s.hidden.sh 0, clkLatch := .low }
      hidden := { s.hidden with sh := s.hidden.sh >>> 1 }
      trace := s.trace ++ .drive .dat (bitLevel s.hidden.sh 0) :: pulseEvents p
      tick := d
      draws := s.draws + 2 } := by
  obtain ⟨d, hd⟩ := clkPulse_spec p (driveShiftBit s)
  refine ⟨d, ?_⟩
  simp only [writeBit, hd]
  simp [driveShiftBit, driveLine, setLatch, emit, shiftSh]

/-- One iteration of `ReadByte`, whole (R142): the sample enters the top of the shifted accumulator, then a pulse. -/
theorem readBit_spec (p : Params) (s : State) :
    ∃ d, readBit p s = { s with
      pins := { s.pins with clkLatch := .low }
      hidden := { s.hidden with acc := s.hidden.acc >>> 1 ||| levelByte (sampleLine .dat s).1 <<< (p.byteBits - 1) }
      trace := s.trace ++ .sample .dat (sampleLine .dat s).1 :: pulseEvents p
      answers := (sampleLine .dat s).2.answers
      tick := d
      draws := (sampleLine .dat s).2.draws + 2 } := by
  obtain ⟨d, hd⟩ := clkPulse_spec p (sampleAcc p (shiftAcc s))
  refine ⟨d, ?_⟩
  simp only [readBit, hd]
  cases h : s.answers with
  | nil =>
    rw [sampleAcc, sampleLine_free (s := shiftAcc s) h, sampleLine_free h]
    simp [orAcc, shiftAcc]
  | cons v rest =>
    rw [sampleAcc, sampleLine_listed (s := shiftAcc s) h, sampleLine_listed h]
    simp [orAcc, shiftAcc]

/-- Two runs of the engine, one after the other. -/
theorem engineRun_add (p : Params) (m n : Nat) (s : State) :
    engineRun p (m + n) s = (engineRun p m s).andThen (engineRun p n) := by
  induction m generalizing s with
  | zero => simp [engineRun]
  | succ m ih =>
    rw [Nat.add_right_comm]
    simp only [engineRun]
    cases engineStep p s with
    | next t => simpa using ih t
    | fault e => rfl
    | refused e => rfl

end Sys2Proof.Machine
end

