-- ==== Sys2Proof/Laws/PerInstr.lean ====
section
/-! SUPPORT. Statements about every instruction as syntax, one lemma per constructor. -/

namespace Sys2Proof.Laws.CanonicalWord

open Sys2Proof

/-- The encoder writes a canonical code word: a defined opcode or address byte, ignored fields 0 (R61, R75). -/
def Statement (i : Instr) : Prop := (encode i).wf = true

/-- A command word with a listed opcode and its ignored fields 0 is canonical. -/
theorem cmd_wf {op a b : Byte}
    (h : ((Code.opNoOperand op && a == 0 && b == 0) || op == 0x10 || (op == 0x11 && b == 0) || (op == 0x20 && a == 0))
      = true) : (Code.cmd (cmdWord op a b)).wf = true := by
  have h1 : (cmdWord op a b).extractLsb' 16 8 = op := opField_cmdWord op a b
  have h2 : (cmdWord op a b).extractLsb' 8 8 = a := aField_cmdWord op a b
  have h3 : (cmdWord op a b).extractLsb' 0 8 = b := bField_cmdWord op a b
  simp only [Code.wf, h1, h2, h3, h]

theorem swRead : Statement .swRead := cmd_wf (by decide)
theorem rtcWrreg (a b : Byte) : Statement (.rtcWrreg a b) := cmd_wf (by simp [Code.opNoOperand])
theorem rtcRdreg (a : Byte) : Statement (.rtcRdreg a) := cmd_wf (by simp [Code.opNoOperand])
theorem rtcInit : Statement .rtcInit := cmd_wf (by decide)
theorem rtcGettime : Statement .rtcGettime := cmd_wf (by decide)
theorem bcdDec (b : Byte) : Statement (.bcdDec b) := cmd_wf (by simp [Code.opNoOperand])
theorem aSecW (v : Byte) : Statement (.aSecW v) := by simp [Statement, encode, Code.wf]
theorem aSecR : Statement .aSecR := by unfold Statement; decide
theorem aMinW (v : Byte) : Statement (.aMinW v) := by simp [Statement, encode, Code.wf]
theorem aMinR : Statement .aMinR := by unfold Statement; decide
theorem aHourW (v : Byte) : Statement (.aHourW v) := by simp [Statement, encode, Code.wf]
theorem aHourR : Statement .aHourR := by unfold Statement; decide
theorem aDateW (v : Byte) : Statement (.aDateW v) := by simp [Statement, encode, Code.wf]
theorem aDateR : Statement .aDateR := by unfold Statement; decide
theorem aMonthW (v : Byte) : Statement (.aMonthW v) := by simp [Statement, encode, Code.wf]
theorem aMonthR : Statement .aMonthR := by unfold Statement; decide
theorem aF7W (v : Byte) : Statement (.aF7W v) := by simp [Statement, encode, Code.wf]
theorem aF7R : Statement .aF7R := by unfold Statement; decide
theorem aYearW (v : Byte) : Statement (.aYearW v) := by simp [Statement, encode, Code.wf]
theorem aYearR : Statement .aYearR := by unfold Statement; decide
theorem aWpW (v : Byte) : Statement (.aWpW v) := by simp [Statement, encode, Code.wf]
theorem aWpR : Statement .aWpR := by unfold Statement; decide

end Sys2Proof.Laws.CanonicalWord
end

