-- ==== Sys2Proof/Machine/Parametric.lean ====
section
/-! DEFINITION. The meanings with the parameter record as an argument (R6). `exec` of Dispatch is this at
`Config.params`. -/

namespace Sys2Proof.Machine

open Sys2Proof

/-- The meaning of an instruction on an engine with the parameters `p`. -/
def execWith (p : Params) (i : Instr) (s : State) : Result State :=
  match i with
  | .swRead => runSwRead p s
  | .rtcWrreg a b => runRtcWrreg p a b s
  | .rtcRdreg a => runRtcRdreg p a s
  | .rtcInit => runRtcInit p s
  | .rtcGettime => runRtcGettime p s
  | .bcdDec b => runBcdDec b s
  | .aSecW v => runASecW p v s
  | .aSecR => runASecR p s
  | .aMinW v => runAMinW p v s
  | .aMinR => runAMinR p s
  | .aHourW v => runAHourW p v s
  | .aHourR => runAHourR p s
  | .aDateW v => runADateW p v s
  | .aDateR => runADateR p s
  | .aMonthW v => runAMonthW p v s
  | .aMonthR => runAMonthR p s
  | .aF7W v => runAF7W p v s
  | .aF7R => runAF7R p s
  | .aYearW v => runAYearW p v s
  | .aYearR => runAYearR p s
  | .aWpW v => runAWpW p v s
  | .aWpR => runAWpR p s

end Sys2Proof.Machine
end

