-- ==== Sys2Proof/Laws/Step.lean ====
section
/-! SUPPORT. What the host's actions and a step can do, said once. -/

namespace Sys2Proof.Machine

open Sys2Proof

/-- The machine's meanings are the parametrised ones at the machine's parameters (R6). -/
theorem exec_eq_execWith (i : Instr) (s : State) : exec i s = execWith Config.params i s := by
  cases i <;> rfl

/-- Everything taking a command word can do. -/
theorem takeCommand_cases (w : Word24) (s : State) :
    (s.flags.busy = true ∧ takeCommand w s = .done s) ∨
    (s.flags.busy = false ∧ ∃ i, decode (.cmd w) = .ok i ∧ takeCommand w s = .run i s) ∨
    (s.flags.busy = false ∧ (∃ e, decode (.cmd w) = .error e) ∧ takeCommand w s = .done (markIllegal s)) := by
  cases hb : s.flags.busy with
  | true => exact .inl ⟨rfl, by simp [takeCommand, hb]⟩
  | false =>
    cases hd : decode (.cmd w) with
    | ok i => exact .inr (.inl ⟨rfl, i, rfl, by simp [takeCommand, hb, hd]⟩)
    | error e => exact .inr (.inr ⟨rfl, ⟨e, rfl⟩, by simp [takeCommand, hb, hd]⟩)

/-- Everything taking a laid-in transaction can do. -/
theorem takeProbe_cases (a d : Byte) (s : State) :
    takeProbe a d s = .done s ∨
    (s.flags.busy = false ∧ ∃ i, decode (.bus a d) = .ok i ∧ takeProbe a d s = .run i s) := by
  cases hb : s.flags.busy with
  | true => exact .inl (by simp [takeProbe, hb])
  | false =>
    cases hd : decode (.bus a d) with
    | ok i => exact .inr ⟨rfl, i, rfl, by simp [takeProbe, hb, hd]⟩
    | error e => exact .inl (by simp [takeProbe, hb, hd])

/-- A host read touches the host's data, the counter of draws and the time only. -/
theorem hostRead_spec (p : Params) (n : Nat) (s : State) :
    ∃ (w : Word32) (k : Nat) (d : Word32),
      hostRead p n s = { s with hostData := w, draws := k, tick := d } := by
  unfold hostRead readStatus readTick
  split
  · split
    · exact ⟨_, s.draws + 1, s.tick, rfl⟩
    · exact ⟨_, s.draws, s.tick, rfl⟩
  · split
    · exact ⟨_, s.draws + 1, (idleTime p s).tick, rfl⟩
    · split
      · exact ⟨_, s.draws + 1, s.tick, rfl⟩
      · exact ⟨_, s.draws, s.tick, rfl⟩

/-- Everything a bare host write can do. -/
theorem hostWrite_cases (n : Nat) (w : Word24) (s : State) :
    hostWrite n w s = s ∨
    (n = 0 ∧ s.flags.busy = false ∧ ∃ i, decodeCmd w = .ok i ∧ hostWrite n w s = acceptCommand w i s) ∨
    (n = 0 ∧ s.flags.busy = false ∧ hostWrite n w s = markIllegal s) := by
  by_cases hn : n = 0
  · cases hb : s.flags.busy with
    | true => exact .inl (by simp [hostWrite, writeCmd, hn, hb])
    | false =>
      cases hd : decodeCmd w with
      | ok i => exact .inr (.inl ⟨hn, rfl, i, rfl, by simp [hostWrite, writeCmd, hn, hb, hd]⟩)
      | error e => exact .inr (.inr ⟨hn, rfl, by simp [hostWrite, writeCmd, hn, hb, hd]⟩)
  · exact .inl (by simp [hostWrite, hn])

/-- One turn of a spin-wait on a line in Input mode: out of budget, or one sample and what it decides. -/
theorem pollStep_cases {l : BiLine} {v : Level} {n : Nat} {s : State} (h : modeOf l.line s = .input) :
    (¬ s.seq.spin < n ∧ pollStep l v n s = .next (.exhausted, s)) ∨
    (s.seq.spin < n ∧ (sampleLine l s).1 = v ∧ pollStep l v n s = .next (.reached, (sampleLine l s).2)) ∨
    (s.seq.spin < n ∧ (sampleLine l s).1 ≠ v ∧
      pollStep l v n s = .next (.again, setSpin (s.seq.spin + 1) (sampleLine l s).2)) := by
  by_cases hn : s.seq.spin < n
  · by_cases hv : (sampleLine l s).1 = v
    · exact .inr (.inl ⟨hn, hv, by simp [pollStep, hn, sample_of_input h, hv]⟩)
    · exact .inr (.inr ⟨hn, hv, by simp [pollStep, hn, sample_of_input h, hv]⟩)
  · exact .inl ⟨hn, by simp [pollStep, hn]⟩

/-- Everything a step can be: a laid-in transaction run or dropped, the engine going on alone, or a host's action: wait,
reset, a read, a bare write, a command run, a word dropped or illegal. `s1` is `s` with the action consumed. -/
theorem step_cases (s : State) :
    (∃ a d, s.probe = some (a, d) ∧
      (step s = .next { s with probe := none } ∨
        ∃ i, s.flags.busy = false ∧ decode (.bus a d) = .ok i ∧ step s = exec i { s with probe := none })) ∨
    s.probe = none ∧
      ((s.host = [] ∧ step s = engineStep Config.params s) ∨
      ∃ rest, let s1 := { s with host := rest }
        (s.host = .wait :: rest ∧ step s = engineStep Config.params s1) ∨
        (s.host = .reset :: rest ∧ step s = .next (resetEngine s1)) ∨
        (∃ n, s.host = .read n :: rest ∧ step s = .next (hostRead Config.params n s1)) ∨
        (∃ n w, s.host = .write n w :: rest ∧ step s = .next (hostWrite n w s1)) ∨
        (∃ w i, s.host = .issue w :: rest ∧ s.flags.busy = false ∧ decode (.cmd w) = .ok i ∧ step s = exec i s1) ∨
        (∃ w, s.host = .issue w :: rest ∧ (step s = .next s1 ∨ step s = .next (markIllegal s1)))) := by
  by_cases hp : s.probe = none
  · refine .inr ⟨hp, ?_⟩
    by_cases hh : s.host = []
    · exact .inl ⟨hh, by simp [step, stepWith, hp, hh]⟩
    obtain ⟨act, rest, hh⟩ := List.exists_cons_of_ne_nil hh
    refine .inr ⟨rest, ?_⟩
    have hs : step s = hostStep Config.params exec act { s with host := rest } := by
      simp [step, stepWith, hp, hh]
    cases act with
    | wait => exact .inl ⟨hh, hs⟩
    | reset => exact .inr (.inl ⟨hh, hs⟩)
    | read n => exact .inr (.inr (.inl ⟨n, hh, hs⟩))
    | write n w => exact .inr (.inr (.inr (.inl ⟨n, w, hh, hs⟩)))
    | issue w =>
      obtain ⟨_, h⟩ | ⟨hb, i, hd, h⟩ | ⟨_, _, h⟩ := takeCommand_cases w { s with host := rest }
      · exact .inr (.inr (.inr (.inr (.inr ⟨w, hh, .inl (by rw [hs]; simp only [hostStep, h, carryOut])⟩))))
      · exact .inr (.inr (.inr (.inr (.inl ⟨w, i, hh, hb, hd, by rw [hs]; simp only [hostStep, h, carryOut]⟩))))
      · exact .inr (.inr (.inr (.inr (.inr ⟨w, hh, .inr (by rw [hs]; simp only [hostStep, h, carryOut])⟩))))
  · obtain ⟨⟨a, d⟩, hp⟩ := Option.ne_none_iff_exists'.mp hp
    refine .inl ⟨a, d, hp, ?_⟩
    obtain h | ⟨hb, i, hd, h⟩ := takeProbe_cases a d { s with probe := none }
    · exact .inl (by simp [step, stepWith, hp, h, carryOut])
    · exact .inr ⟨i, hb, hd, by simp [step, stepWith, hp, h, carryOut]⟩

end Sys2Proof.Machine
end

