-- ==== Sys2Proof/Tests/Slice0.lean ====
section
/-! SUPPORT. Tests of the model's own parts, each expectation taken from the spec (its rule or vector named), and one
witness for every statement that has hypotheses. -/

namespace Sys2Proof.Tests

open Sys2Proof Sys2Proof.Machine Sys2Proof.Claims

/-- The parameters of the test vectors: `N_RESP = 3`, `N_BIT_START = 4`, `N_BIT_END = 2`, no seeding (95_test_vectors.md). -/
def vectorParams : Params where
  nResp := 3
  nBitStart := 4
  nBitEnd := 2
  seedEnable := false
  seed0 := 0
  seed1 := 0
  seed2 := 0
  seed3 := 0
  seed4 := 0
  seed5 := 0
  seed6 := 0

/-- The parameters of vector V35: seeding with `00 30 09 15 06 02 26`. -/
def seedParams : Params :=
  { vectorParams with
    seedEnable := true
    seed0 := 0x00
    seed1 := 0x30
    seed2 := 0x09
    seed3 := 0x15
    seed4 := 0x06
    seed5 := 0x02
    seed6 := 0x26 }

/-- The state after reset with these answers to come. -/
def hearing (ls : List Level) : State := { State.reset with answers := ls }

/-- The state after reset with these host actions to come. -/
def hosted (acts : List HostAct) : State := { State.reset with host := acts }

/-- A busy engine at phase `ph` of the command word `w`. -/
def busyAt (ph : Phase) (w : Word24) : State :=
  { State.reset with
    flags := { busy := true, ckok := false, ill := false }
    seq := { Seq.idle with phase := ph, cmd := w } }

/-- The frame of vector V20: 37 00 18 00 4F. -/
def v20Frame : Frame := { b0 := 0x37, b1 := 0x00, b2 := 0x18, b3 := 0x00, b4 := 0x4F }

/-- A held reading of 37 and 18, as vectors V23 to V25 start from. -/
def heldReading (ls : List Level) : State :=
  { hearing ls with regs := { State.reset.regs with hum := 0x37, temp := 0x18 } }

/-- The test vectors' clock chip: `03 40 17 08 12 01 24` and a control byte. -/
def v33Chip (wp : Byte) : Chip := Chip.holding #v[0x03, 0x40, 0x17, 0x08, 0x12, 0x01, 0x24, wp]

/-- The next state of a result; the state after reset if there is none. -/
def after (r : Result State) : State :=
  match r with
  | .next t => t
  | _ => State.reset

/-! ### Well-formedness refuses ill-formed terms -/

/-- An undefined opcode (R63, V40i). -/
theorem test_wf_undefined_opcode : (Code.cmd 0x000000).wf = false := by decide

/-- `SW.READ` with an ignored field not 0 (R75, V40b). -/
theorem test_wf_swRead_ignored_fields : (Code.cmd 0x01ABCD).wf = false := by decide

/-- `RTC.RDREG` with its ignored `b` not 0 (R75, V40e). -/
theorem test_wf_rdreg_ignored_b : (Code.cmd 0x1181FF).wf = false := by decide

/-- `BCD.DEC` with its ignored `a` not 0 (R75, V6). -/
theorem test_wf_bcdDec_ignored_a : (Code.cmd 0x20AB30).wf = false := by decide

/-- An address byte that rule R70 does not list. -/
theorem test_wf_unnamed_address : (Code.bus 0x90 0).wf = false := by decide

/-- A read address with a data byte of the host's (R68). -/
theorem test_wf_read_address_with_data : (Code.bus 0x81 1).wf = false := by decide

/-- The words of rule R75 are well formed. -/
theorem test_wf_spec_words :
    (Code.cmd 0x010000).wf = true ∧ (Code.cmd 0x108E00).wf = true ∧ (Code.cmd 0x118100).wf = true ∧
      (Code.bus 0x80 0x30).wf = true := by decide

/-- A budget of 0 (R6). -/
theorem test_params_wf_zero_budget :
    { vectorParams with nResp := 0 }.wf = false ∧ { vectorParams with nBitStart := 0 }.wf = false ∧
      { vectorParams with nBitEnd := 0 }.wf = false := by decide

/-- A frame, a byte or a tick that does not fit its registers (R6, R10, R11). -/
theorem test_params_wf_sizes :
    { vectorParams with frameBytes := 6 }.wf = false ∧ { vectorParams with byteBits := 9 }.wf = false ∧
      { vectorParams with tickBits := 33 }.wf = false := by decide

/-- A frame of four bytes is read as four, and `FRAME4` keeps its value (R6, R114). -/
theorem test_frameBytes_parameter :
    (swReadFrame { vectorParams with frameBytes := 4 } (hearing (List.replicate 16 .low))).answers = [] ∧
      (swReadFrame vectorParams (hearing (List.replicate 20 .low))).answers = [] := by decide

/-- A timeout code equal to the ok or the error code, or ok and error equal (R73). -/
theorem test_params_wf_codes :
    { vectorParams with presTimeout := 0x01 }.wf = false ∧ { vectorParams with presTimeout := 0xFF }.wf = false ∧
      { vectorParams with presErr := 0x01 }.wf = false ∧ vectorParams.wf = true := by decide

/-! ### Decoding words written out from the spec -/

/-- The six words of rule R75. -/
theorem test_decode_r75 :
    decode (.cmd 0x010000) = .ok .swRead ∧ decode (.cmd 0x108E00) = .ok (.rtcWrreg 0x8E 0x00) ∧
      decode (.cmd 0x118100) = .ok (.rtcRdreg 0x81) ∧ decode (.cmd 0x120000) = .ok .rtcInit ∧
      decode (.cmd 0x130000) = .ok .rtcGettime ∧ decode (.cmd 0x200045) = .ok (.bcdDec 0x45) := by
  refine ⟨?_, ?_, ?_, ?_, ?_, ?_⟩ <;> rfl

/-- Fields bit by bit: `op` 23:16, `a` 15:8, `b` 7:0; word 0x108030 is `RTC.WRREG 0x80, 0x30` (R60, R147). -/
theorem test_decode_bits : decode (.cmd 0b000100001000000000110000#24) = .ok (.rtcWrreg 0x80 0x30) := by rfl

/-- Ignored fields have no effect (V40b, V40e, V40f, V6). -/
theorem test_decode_ignored_fields :
    decode (.cmd 0x01ABCD) = .ok .swRead ∧ decode (.cmd 0x1181FF) = .ok (.rtcRdreg 0x81) ∧
      decode (.cmd 0x12FFFF) = .ok .rtcInit ∧ decode (.cmd 0x20AB30) = .ok (.bcdDec 0x30) := by
  refine ⟨?_, ?_, ?_, ?_⟩ <;> rfl

/-- The illegal words of vectors V40i and V40j. -/
theorem test_decode_illegal :
    decode (.cmd 0x000000) = .error (.undefinedOpcode 0x00) ∧
      decode (.cmd 0x020000) = .error (.undefinedOpcode 0x02) ∧
      decode (.cmd 0x0F0000) = .error (.undefinedOpcode 0x0F) ∧
      decode (.cmd 0x140000) = .error (.undefinedOpcode 0x14) ∧
      decode (.cmd 0x1F0000) = .error (.undefinedOpcode 0x1F) ∧
      decode (.cmd 0x210000) = .error (.undefinedOpcode 0x21) ∧
      decode (.cmd 0xFFFFFF) = .error (.undefinedOpcode 0xFF) := by
  refine ⟨?_, ?_, ?_, ?_, ?_, ?_, ?_⟩ <;> rfl

/-- The write addresses of rule R70, in binary as its table has them, each with the data byte 0x5A. -/
theorem test_decode_write_addresses :
    decode (.bus 0b10000000#8 0x5A) = .ok (.aSecW 0x5A) ∧ decode (.bus 0b10000010#8 0x5A) = .ok (.aMinW 0x5A) ∧
      decode (.bus 0b10000100#8 0x5A) = .ok (.aHourW 0x5A) ∧ decode (.bus 0b10000110#8 0x5A) = .ok (.aDateW 0x5A) ∧
      decode (.bus 0b10001000#8 0x5A) = .ok (.aMonthW 0x5A) ∧ decode (.bus 0b10001010#8 0x5A) = .ok (.aF7W 0x5A) ∧
      decode (.bus 0b10001100#8 0x5A) = .ok (.aYearW 0x5A) ∧ decode (.bus 0b10001110#8 0x5A) = .ok (.aWpW 0x5A) := by
  refine ⟨?_, ?_, ?_, ?_, ?_, ?_, ?_, ?_⟩ <;> rfl

/-- The read addresses of rule R70. -/
theorem test_decode_read_addresses :
    decode (.bus 0b10000001#8 0) = .ok .aSecR ∧ decode (.bus 0b10000011#8 0) = .ok .aMinR ∧
      decode (.bus 0b10000101#8 0) = .ok .aHourR ∧ decode (.bus 0b10000111#8 0) = .ok .aDateR ∧
      decode (.bus 0b10001001#8 0) = .ok .aMonthR ∧ decode (.bus 0b10001011#8 0) = .ok .aF7R ∧
      decode (.bus 0b10001101#8 0) = .ok .aYearR ∧ decode (.bus 0b10001111#8 0) = .ok .aWpR := by
  refine ⟨?_, ?_, ?_, ?_, ?_, ?_, ?_, ?_⟩ <;> rfl

/-- The table's numbering: the data byte of a write row in bits 15 to 8, 0 when the row gives the address byte only. -/
theorem test_decodeTableWord :
    decodeTableWord 8 0x84 = some (.aHourW 0x00) ∧ decodeTableWord 16 0x1284 = some (.aHourW 0x12) ∧
      decodeTableWord 24 0x118500 = some (.rtcRdreg 0x85) ∧ decodeTableWord 8 0x7F = none := by
  refine ⟨?_, ?_, ?_, ?_⟩ <;> rfl

/-- The expansions of rule R76. -/
theorem test_pseudo_expansions :
    Pseudo.unlock.expand = .rtcWrreg 0x8E 0x00 ∧ Pseudo.lock.expand = .rtcWrreg 0x8E 0x80 ∧
      (Pseudo.rd .year).expand = .rtcRdreg 0x8D ∧ (Pseudo.wr .date 0x15).expand = .rtcWrreg 0x86 0x15 := by decide

/-- Lines of assembly of rule R75. -/
theorem test_asm_lines :
    (Instr.rtcWrreg 0x8E 0x00).asmLine = "RTC.WRREG 0x8E, 0x00" ∧ Instr.swRead.asmLine = "SW.READ" ∧
      (Instr.bcdDec 0x45).asmLine = "BCD.DEC 0x45" := by decide +kernel

/-! ### Pure functions -/

/-- `BcdDec` on invalid bytes and with flag bits set, nothing masked (V2, V3). -/
theorem test_bcdDec :
    bcdDec 0x0F = 15 ∧ bcdDec 0x7F = 85 ∧ bcdDec 0xAA = 110 ∧ bcdDec 0xF9 = 159 ∧ bcdDec 0x80 = 80 ∧
      bcdDec 0xD9 = 139 ∧ bcdDec 0x92 = 92 := by decide

/-- `BcdEnc` (V4). -/
theorem test_bcdEnc :
    bcdEnc 7 = some 0x07 ∧ bcdEnc 10 = some 0x10 ∧ bcdEnc 59 = some 0x59 ∧ bcdEnc 99 = some 0x99 ∧
      bcdEnc 100 = none := by decide

/-- `Checksum` (V11, V14, V15). -/
theorem test_checksum :
    checksum 0xFF 0xFF 0xFF 0xFF = 0xFC ∧ checksum 0x80 0x80 0 0 = 0 ∧ checksum 0xF0 0x20 0 0 = 0x10 := by decide

/-! ### Operations -/

/-- `SpinUntil(SW, 1, 3)`: reached at the third poll; exhausted after three, not four (V19a, V19b). -/
theorem test_spin_counts :
    (spinUntil .sw .high 3 (hearing [Level.low, Level.low, Level.high, Level.high])).1 = .reached ∧
      (spinUntil .sw .high 3 (hearing [Level.low, Level.low, Level.high, Level.high])).2.answers = [Level.high] ∧
      (spinUntil .sw .high 3 (hearing [Level.low, Level.low, Level.low, Level.high])).1 = .exhausted ∧
      (spinUntil .sw .high 3 (hearing [Level.low, Level.low, Level.low, Level.high])).2.answers = [Level.high] := by decide

/-- The timeout overrides ok (V21e); no 80 µs wait after a High first sample (V21h). -/
theorem test_response_check :
    (swCheckResponse vectorParams (hearing [Level.low, Level.high, Level.high, Level.high, Level.high])).1 = 0x00 ∧
      (swCheckResponse vectorParams (hearing [Level.high, Level.low])).2.trace =
        [Event.delay 40, .sample .sw .high, .sample .sw .low] ∧
      (swCheckResponse vectorParams (hearing [Level.low, Level.low, Level.low])).1 = 0xFF := by decide

/-- A bit: V22a gives 1 with its trace; V22d aborts with the sampled 1 thrown away. -/
theorem test_read_bit :
    (swReadBit vectorParams (hearing [Level.low, Level.high, Level.high, Level.high, Level.low])).1 = some .high ∧
      (swReadBit vectorParams (hearing [Level.low, Level.high, Level.high, Level.high, Level.low])).2.trace =
        [Event.sample .sw .low, .sample .sw .high, .delay 40, .sample .sw .high, .sample .sw .high, .sample .sw .low] ∧
      (swReadBit vectorParams (hearing [Level.high, Level.high, Level.high, Level.high])).1 = none := by decide

/-- A byte: the first bit received is bit 7 (V22f); an abort in the third bit gives 0x00, not 0xC0 (V22i). -/
theorem test_read_byte :
    (swReadByte vectorParams (hearing ([Level.low, Level.low, Level.high, Level.high, Level.low, Level.high, Level.high, Level.high].flatMap
        fun b => [Level.high, b, Level.low]))).1 = 0x37 ∧
      (swReadByte vectorParams (hearing [Level.high, Level.high, Level.low, Level.high, Level.high, Level.low, Level.high, Level.high, Level.high, Level.high])).1
        = 0x00 := by decide +kernel

/-- `WriteByte(0x8E)`: 0, 1, 1, 1, 0, 0, 0, 1 on `DAT` (V27). -/
theorem test_write_byte_order :
    ((writeByte vectorParams 0x8E State.reset).trace.filter fun e =>
        e == .drive .dat .low || e == .drive .dat .high) =
      [Event.drive .dat .low, .drive .dat .high, .drive .dat .high, .drive .dat .high, .drive .dat .low, .drive .dat .low,
        .drive .dat .low, .drive .dat .high] := by decide +kernel

/-- `ReadByte`: samples 0, 0, 0, 0, 1, 1, 0, 0 give 0x30; a 1 first gives 0x01 (V28). -/
theorem test_read_byte_lsb_first :
    (readByte vectorParams (hearing [Level.low, Level.low, Level.low, Level.low, Level.high, Level.high, Level.low, Level.low])).hidden.acc = 0x30 ∧
      (readByte vectorParams (hearing [Level.high, Level.low, Level.low, Level.low, Level.low, Level.low, Level.low, Level.low])).hidden.acc = 0x01 := by
  decide +kernel

/-! ### Instructions -/

/-- `SW.READ` of the clean frame (V20): the registers, `CKOK`, 171 events, 123 samples, 19 740 µs. -/
theorem test_swRead_clean :
    let t := swReadBody vectorParams (hearing (sensorAnswers v20Frame 0 (fun _ => 0) (fun _ => 0)))
    frameOf t = v20Frame ∧ t.regs.pres = 0x01 ∧ t.regs.hum = 0x37 ∧ t.regs.temp = 0x18 ∧ t.flags.ckok = true ∧
      t.trace.length = 171 ∧ sampleCount t.trace = 123 ∧ delayTotal t.trace = 19740 := by decide +kernel

/-- `SW.READ` of a sensor that falls silent after 24 bits (V25): rejected, the held values retained, 115 events. -/
theorem test_swRead_silent :
    let t := swReadBody vectorParams
      (heldReading ((sensorAnswers v20Frame 0 (fun _ => 0) (fun _ => 0)).take 75 ++ List.replicate 8 Level.low))
    frameOf t = { b0 := 0x37, b1 := 0x00, b2 := 0x18, b3 := 0x00, b4 := 0x00 } ∧ t.regs.hum = 0x37 ∧
      t.regs.temp = 0x18 ∧ t.flags.ckok = false ∧ t.trace.length = 115 := by decide +kernel

/-- `RTC.WRREG 0x8E, 0x00` (V30): 85 events, the first five and the last, 32 µs, no sample. -/
theorem test_wrreg_v30 :
    let t := after (exec (.rtcWrreg 0x8E 0x00) State.reset)
    t.trace.length = 85 ∧ t.trace.take 5 =
        [Event.drive .clk .low, .drive .ce .high, .mode .dat .output, .drive .dat .low, .drive .clk .high] ∧
      t.trace.drop 84 = [Event.drive .ce .low] ∧ delayTotal t.trace = 32 ∧ t.regs = State.reset.regs := by
  decide +kernel

/-- Write protection in the reference peer (V33): locked, the write of 30 to the second is ignored; unlocked, taken. -/
theorem test_wrreg_v33 :
    let es := (after (exec (.rtcWrreg 0x80 0x30) State.reset)).trace
    ((v33Chip 0x80).follow es).map (fun c => c.reg[0]) = some 0x03 ∧
      ((v33Chip 0x00).follow es).map (fun c => c.reg[0]) = some 0x30 := by decide +kernel

/-- `RTC.RDREG 0x81` with the second 03 (V31): `RDATA = 0x03`, `DAT` Input, the mode switch at event 43. -/
theorem test_rdreg_v31 :
    let t := after (exec (.rtcRdreg 0x81) (hearing (byteAnswers 0x03)))
    t.regs.rdata = 0x03 ∧ t.pins.datMode = .input ∧ t.trace[43]? = some (.mode .dat .input) ∧
      t.trace[44]? = some (Event.sample .dat .high) ∧ t.trace.length = 85 := by decide +kernel

/-- `RTC.RDREG 0x00` (V32): eight 0 address bits, the byte sampled, `ILL` stays 0. -/
theorem test_rdreg_v32 :
    let t := after (exec (.rtcRdreg 0x00) (hearing (byteAnswers 0xA5)))
    t.regs.rdata = 0xA5 ∧ t.flags.ill = false ∧
      (t.trace.take 43).all (fun e => e != .drive .dat .high) = true := by decide +kernel

/-- `RTC.INIT` without seeding (V34): 170 events, 64 µs, the chip left as it was but locked. -/
theorem test_init_v34 :
    let t := writeAll vectorParams (initWrites vectorParams) State.reset
    t.trace.length = 170 ∧ delayTotal t.trace = 64 ∧ t.pins.datLatch = .high ∧
      ((v33Chip 0x00).follow t.trace).map (fun c => c.reg) =
        some #v[0x03, 0x40, 0x17, 0x08, 0x12, 0x01, 0x24, 0x80] := by decide +kernel

/-- `RTC.INIT` with seeding (V35): nine writes, in this order. -/
theorem test_init_v35 :
    initWrites seedParams = [(0x8E, 0x00), (0x80, 0x00), (0x82, 0x30), (0x84, 0x09), (0x86, 0x15), (0x88, 0x06),
      (0x8A, 0x02), (0x8C, 0x26), (0x8E, 0x80)] := by decide

/-- `RTC.GETTIME` on `D9 7F A0 0A 1F 07 FF` (V36): 139, 85, 100, 10, 25, 165; `RDATA` unchanged. -/
theorem test_gettime_v36 :
    let t := after (exec .rtcGettime (hearing (byteAnswers 0xD9 ++ byteAnswers 0x7F ++ byteAnswers 0xA0 ++
      byteAnswers 0x0A ++ byteAnswers 0x1F ++ byteAnswers 0xFF)))
    timeFields.map (fun f => timeReg f t) = [139, 85, 100, 10, 25, 165] ∧ t.regs.rdata = 0x00 := by
  decide +kernel

/-- `RTC.GETTIME` tears when the chip rolls over after the first read (V38): what it then answers. -/
theorem test_gettime_v38 :
    let t := after (exec .rtcGettime (hearing (byteAnswers 0x59 ++ byteAnswers 0x00 ++ byteAnswers 0x00 ++
      byteAnswers 0x01 ++ byteAnswers 0x01 ++ byteAnswers 0x00)))
    timeFields.map (fun f => timeReg f t) = [59, 0, 0, 1, 1, 0] := by decide +kernel

/-- The ticking chip goes to a later calendar time only: 17:40:04 on 08/12/24 is later than 17:40:03, 17:40:02 is not;
no second 75, no month 99; 31/12/99 rolls over to 01/01/00 with the year's digits turned, not without (R189, V38). -/
theorem test_chip_ticks :
    ((v33Chip 0x80).input (.tick 0x04 0x40 0x17 0x08 0x12 0x01 0x24 false)).map (fun c => c.reg) =
        some #v[0x04, 0x40, 0x17, 0x08, 0x12, 0x01, 0x24, 0x80] ∧
      (v33Chip 0x80).input (.tick 0x02 0x40 0x17 0x08 0x12 0x01 0x24 false) = none ∧
      (v33Chip 0x80).input (.tick 0x75 0x40 0x17 0x08 0x12 0x01 0x25 false) = none ∧
      (v33Chip 0x80).input (.tick 0x04 0x40 0x17 0x08 0x99 0x01 0x25 false) = none ∧
      (let c := Chip.holding #v[0x59, 0x59, 0x23, 0x31, 0x12, 0x07, 0x99, 0x80]
       (c.input (.tick 0 0 0 0x01 0x01 0x01 0 true)).isSome = true ∧
         c.input (.tick 0 0 0 0x01 0x01 0x01 0 false) = none) := by decide

/-- A read of address 0x00: the chip of U3 refuses the run; that of R185's words follows it unchanged. -/
theorem test_chip_unlisted :
    let es := (after (exec (.rtcRdreg 0x00) (hearing (byteAnswers 0xA5)))).trace
    (v33Chip 0x80).follow es = none ∧
      (Chip.follow { v33Chip 0x80 with unlisted := .anyBit } es).map Chip.reg = some (v33Chip 0x80).reg := by
  decide +kernel

/-- `EnvSensor` answers the handshake of V20 and, `SW` released anew, answers it again (R183). -/
theorem test_envSensor :
    let env := envSensor envStuckLow v20Frame 0 (fun _ => 0) (fun _ => 0)
    let qs := sensorAnswers v20Frame 0 (fun _ => 0) (fun _ => 0)
    let t := (swReadBody vectorParams (hearing (qs ++ qs)))
    answeredBy env [] t.trace = true ∧
      answeredBy env t.trace [.mode .sw .input, .sample .sw .low, .sample .sw .high, .sample .sw .low] = true ∧
      answeredBy env t.trace [.mode .sw .input, .sample .sw .high] = false := by decide +kernel

/-- `BCD.DEC 0xFF` (V6): 0xA5, no pin event. -/
theorem test_bcdDec_v6 :
    let t := after (exec (.bcdDec 0xFF) State.reset)
    t.regs.rdata = 0xA5 ∧ t.trace = [] ∧ t.flags.busy = false := by decide

/-- Each write address sends its own address byte, then the data byte (R68, R70): the chip's register of that address
takes it. -/
theorem test_write_addresses_reach_their_register :
    (writeRows 0x5A).all (fun r =>
      ((v33Chip 0x00).follow (after (exec r.1 State.reset)).trace).map (fun c => c.reg[regIndex r.2])
        == some 0x5A) = true := by decide +kernel

/-- Each read address reads its own register into `acc` (R69, R70). -/
theorem test_read_addresses_read_their_register :
    readRows.all (fun r =>
      let t := after (exec r.1 (hearing (byteAnswers (v33Chip 0x80).reg[regIndex r.2])))
      ((v33Chip 0x80).follow t.trace).isSome && t.hidden.acc == (v33Chip 0x80).reg[regIndex r.2]) = true := by
  decide +kernel

/-! ### The machine -/

/-- A legal word clears `ILL`; an illegal one, written bare, sets it and nothing else (V40a, V40i). -/
theorem test_ill_flag :
    (after (step (hosted [.write 0 0x140000]))).flags = { busy := false, ckok := false, ill := true } ∧
      (after (step { hosted [.write 0 0x010000] with flags := { busy := false, ckok := false, ill := true } })).flags
        = { busy := true, ckok := false, ill := false } := by decide

/-- A word written while busy is dropped (V40k). -/
theorem test_busy_drop : step { busyAt .bcd 0x200045 with host := [.write 0 0x000000] } =
    .next { busyAt .bcd 0x200045 with host := [] } := by rfl

/-- Reset during the 18 ms delay releases `SW` and ends the command (V44). -/
theorem test_reset_v44 :
    let s := { busyAt (.swStart .holdLow) 0x010000 with
      pins := { State.reset.pins with swMode := .output, swLatch := .low }
      trace := [Event.mode .sw .output, .drive .sw .low]
      host := [.reset] }
    (after (step s)).pins = State.reset.pins ∧ (after (step s)).flags.busy = false ∧ (after (step s)).trace = [] := by
  decide

/-- A wrong-mode access stops the sequencer by name (R98, U1). -/
theorem test_wrong_mode :
    step (busyAt (.swStart .driveLow) 0x010000) = .refused .driveOnInputLine ∧
      step { busyAt (.swCheck .firstSample) 0x010000 with pins := { State.reset.pins with swMode := .output } } =
        .refused .sampleOnOutputLine := by
  refine ⟨?_, ?_⟩ <;> rfl

/-- A sequencer state off the phase table stops by name (R22, Log 23). -/
theorem test_off_table : step (busyAt .bcd 0x010000) = .refused .sequencerOffTable := by rfl

/-- The row of the table placed at the fetch runs first after reset. -/
theorem test_fetch_runs_the_row :
    step (State.reset.withFetchWord 24 0x200045) = exec (.bcdDec 0x45) State.reset ∧
      step (State.reset.withFetchWord 8 0x81) = exec .aSecR State.reset := by
  refine ⟨?_, ?_⟩ <;> rfl

/-- The answers of a listening state, as the statements write them. -/
theorem hearing_answers (ls : List Level) : (hearing ls).answers = ls ++ [] := (List.append_nil ls).symm

/-! ### Witnesses: for each statement with hypotheses, a state and operands that meet them all -/

theorem witness_DecodeOfEncodeIsIdentity :
    (Instr.rtcWrreg 0xFF 0xFF).wf = true ∧ (Instr.aWpW 0x80).wf = true := by decide

theorem witness_AddressBytesDecodeByTheirTable :
    ((0x7F : Byte).toNat < 0x80 ∨ 0x8F < (0x7F : Byte).toNat) ∧ ((0x90 : Byte).toNat < 0x80 ∨ 0x8F < (0x90 : Byte).toNat) ∧
      (Instr.aSecW 0xFF, (0x80 : Byte)) ∈ writeRows 0xFF ∧ (Instr.aWpR, (0x8F : Byte)) ∈ readRows := by decide

theorem witness_StepRunsTheDecodedInstruction :
    (HostNext (hosted [.issue 0x108E00]) (.issue 0x108E00) [] ∧
      (hosted [.issue 0x108E00]).flags.busy = false ∧ decode (.cmd 0x108E00) = .ok (.rtcWrreg 0x8E 0x00)) ∧
    ({ State.reset with probe := some (0x8E, 0x80) }.probe = some (0x8E, 0x80) ∧
      { State.reset with probe := some (0x8E, 0x80) }.flags.busy = false ∧
      decode (.bus 0x8E 0x80) = .ok (.aWpW 0x80)) ∧
    State.reset.flags.busy = false ∧ State.reset.seq = Seq.idle ∧ State.reset.probe = none ∧
      decodeTableWord 8 0x8F = some .aWpR :=
  ⟨⟨⟨rfl, rfl⟩, rfl, rfl⟩, ⟨rfl, rfl, rfl⟩, rfl, rfl, rfl, rfl⟩

theorem witness_TheHostIssuesOnlyTheSixCommands :
    HostNext (hosted [.issue 0x130000]) (.issue 0x130000) [] ∧ (hosted [.issue 0x130000]).flags.busy = false ∧
    (∃ t, step { State.reset with probe := some (0x81, 0x00) } = .next t) ∧ ∃ t, step State.reset = .next t :=
  ⟨⟨rfl, rfl⟩, rfl, ⟨_, rfl⟩, ⟨_, rfl⟩⟩

theorem witness_IllegalWordOnlySetsIll :
    (HostNext (hosted [.issue 0x14ABCD]) (.issue 0x14ABCD) [] ∧ opField 0x14ABCD ∉ legalOps ∧
      (hosted [.issue 0x14ABCD]).flags.busy = false) ∧
    (HostNext { busyAt .bcd 0x200045 with host := [.write 0 0x000000] } (.write 0 0x000000) [] ∧
      opField 0x000000 ∉ legalOps ∧ { busyAt .bcd 0x200045 with host := [.write 0 0x000000] }.flags.busy = true) ∧
    opField 0x20FFFF ∈ legalOps :=
  ⟨⟨⟨rfl, rfl⟩, by decide, rfl⟩, ⟨⟨rfl, rfl⟩, by decide, rfl⟩, by decide⟩

theorem witness_BusyEngineDropsEveryWord :
    { busyAt .bcd 0x200045 with host := [.write 0 0x010000] }.flags.busy = true ∧
      HostNext { busyAt .bcd 0x200045 with host := [.write 0 0x010000] } (.write 0 0x010000) [] ∧
      HostNext { busyAt .bcd 0x200045 with host := [.issue 0x000000] } (.issue 0x000000) [] :=
  ⟨rfl, ⟨rfl, rfl⟩, ⟨rfl, rfl⟩⟩

theorem witness_BareWriteAcceptsTheCommand :
    HostNext (hosted [.write 0 0x010000]) (.write 0 0x010000) [] ∧ (hosted [.write 0 0x010000]).flags.busy = false ∧
      decode (.cmd 0x010000) = .ok .swRead ∧ decode (.cmd 0x200045) = .ok (.bcdDec 0x45) ∧
      decode (.cmd 0x130000) = .ok .rtcGettime :=
  ⟨⟨rfl, rfl⟩, rfl, rfl, rfl, rfl⟩

theorem witness_PhaseTableImplementsCommands :
    decodeCmd 0x010000 = .ok .swRead ∧ decodeCmd 0x10FF55 = .ok (.rtcWrreg 0xFF 0x55) ∧
      decodeCmd 0x110000 = .ok (.rtcRdreg 0x00) ∧ decodeCmd 0x12FFFF = .ok .rtcInit ∧
      decodeCmd 0x130000 = .ok .rtcGettime ∧ decodeCmd 0x2000FF = .ok (.bcdDec 0xFF) :=
  ⟨rfl, rfl, rfl, rfl, rfl, rfl⟩

/-- Idle with a reading held; running `BCD.DEC`; running `SW.READ` with `SW` driven; inside the data byte of a read. -/
theorem witness_EveryStepGoesOnAndKeepsTheInvariant :
    (heldReading []).Inv ∧ (busyAt .bcd 0x200045).Inv ∧
    State.Inv { busyAt (.swStart .holdLow) 0x010000 with
      pins := { State.reset.pins with swMode := .output, swLatch := .low } } ∧
    State.Inv { busyAt (.rtcRdBit .highTime) 0x118100 with
      pins := { State.reset.pins with ceLatch := .high, clkLatch := .high }
      seq := { Seq.idle with phase := .rtcRdBit .highTime, cmd := 0x118100, txByte := .data, bit := 7 } } :=
  ⟨rfl, rfl, rfl, rfl⟩

theorem witness_ResetEndsACommandAtOnce :
    HostNext { busyAt (.rtcBegin .enableHigh) 0x120000 with host := [.reset, .wait] } .reset [.wait] := ⟨rfl, rfl⟩

/-- The last step of a clean `SW.READ`. -/
theorem witness_OnlyAnAcceptedFrameWritesTheReading : ∃ s t : State, step s = .next t ∧ ¬ ResetNext s ∧
    (t.regs.hum ≠ s.regs.hum ∨ t.regs.temp ≠ s.regs.temp) := by
  refine ⟨{ busyAt .swValidate 0x010000 with
    regs := { State.reset.regs with frame0 := 0x37, frame2 := 0x18, frame4 := 0x4F } }, _, rfl, ?_, by decide⟩
  rintro ⟨rest, -, h⟩
  cases h

/-- The end of the first transaction of `RTC.GETTIME`, and the whole command issued. -/
theorem witness_OnlyGettimeWritesTheTime :
    (∃ s t : State, step s = .next t ∧ ¬ ResetNext s ∧ ∃ f, timeReg f t ≠ timeReg f s) ∧
    ∃ s t : State, step s = .next t ∧ ¬ ResetNext s ∧ (∃ f, timeReg f t ≠ timeReg f s) ∧
      HostNext s (.issue 0x130000) [] := by
  refine ⟨⟨{ busyAt .rtcEnd 0x130000 with hidden := { State.reset.hidden with acc := 0x30 } }, _, rfl, ?_,
    .sec, by decide⟩, ⟨{ hosted [.issue 0x130000] with answers := List.replicate 48 .high }, _, rfl, ?_,
    ⟨.sec, by decide +kernel⟩, ⟨rfl, rfl⟩⟩⟩ <;> (rintro ⟨rest, -, h⟩; cases h)

theorem witness_TraceOnlyGrows : ∃ s t : State, step s = .next t ∧ ¬ ResetNext s := by
  refine ⟨busyAt (.swStart .toOutput) 0x010000, _, rfl, ?_⟩
  rintro ⟨rest, -, h⟩
  cases h

theorem witness_LineOperationsWriteOneLine :
    { State.reset with pins := { State.reset.pins with swMode := .output } }.pins.swMode = .output ∧
      { State.reset with pins := { State.reset.pins with datMode := .output } }.pins.datMode = .output := by decide

theorem witness_WrongModeAccessIsRefused :
    (modeOf BiLine.sw.line (hearing [Level.high]) = .input ∧ (hearing [Level.high]).answers = Level.high :: []) ∧
      modeOf BiLine.dat.line (hearing []) = .input ∧
      modeOf BiLine.dat.line { State.reset with pins := { State.reset.pins with datMode := .output } } = .output := by
  decide

theorem witness_DelayIsALowerBound :
    Config.params.tickBits = 32 ∧ 18000 < 2 ^ 32 ∧ 2 ^ 32 - 1 < 2 ^ 32 := by decide

/-- Vectors V19a to V19c. -/
theorem witness_SpinUntilPollsAtMostItsBudget :
    (2 < 3 ∧ (hearing [Level.low, Level.low, Level.high]).answers = List.replicate 2 (other Level.high) ++ Level.high :: []) ∧
      (0 < 3 ∧ (hearing [Level.high]).answers = List.replicate 0 (other Level.high) ++ Level.high :: []) ∧
      (hearing [Level.low, Level.low, Level.low]).answers = List.replicate 3 (other Level.high) ++ [] := by decide

/-- Vectors V21a, V21b, V21d to V21g: one per row of the table, each with a state whose answers they are. -/
theorem witness_ResponseCheckFollowsItsTable :
    Handshake vectorParams ([Level.high] ++ List.replicate 1 Level.high ++ [Level.low]) vectorParams.presNone ∧
    Handshake vectorParams ([Level.high] ++ List.replicate vectorParams.nResp Level.high) vectorParams.presTimeout ∧
    Handshake vectorParams ([Level.low, Level.high] ++ List.replicate 2 Level.high ++ [Level.low]) vectorParams.presOk ∧
    Handshake vectorParams ([Level.low, Level.high] ++ List.replicate vectorParams.nResp Level.high) vectorParams.presTimeout ∧
    Handshake vectorParams ([Level.low, Level.low] ++ List.replicate 0 Level.high ++ [Level.low]) vectorParams.presErr ∧
    Handshake vectorParams ([Level.low, Level.low] ++ List.replicate vectorParams.nResp Level.high) vectorParams.presTimeout ∧
    ∀ hs : List Level, (hearing hs).answers = hs ++ [] :=
  ⟨.noSensor 1 (show 1 < 3 by decide), .noSensorTimeout, .ok 2 (show 2 < 3 by decide), .okTimeout,
    .error 0 (show 0 < 3 by decide), .errorTimeout, hearing_answers⟩

/-- The longest waits that are still reached, and both aborts (V22c, V22d). -/
theorem witness_ReadBitSamplesOrAborts :
    (3 < vectorParams.nBitStart ∧ 1 < vectorParams.nBitEnd ∧
      (hearing (bitAnswers 3 1 Level.low)).answers = bitAnswers 3 1 Level.low ++ []) ∧
    (hearing (List.replicate vectorParams.nBitStart Level.low)).answers =
      List.replicate vectorParams.nBitStart Level.low ++ [] ∧
    (0 < vectorParams.nBitStart ∧
      (hearing (List.replicate 0 Level.low ++ [Level.high, Level.high] ++ List.replicate vectorParams.nBitEnd Level.high)).answers =
      List.replicate 0 Level.low ++ [Level.high, Level.high] ++ List.replicate vectorParams.nBitEnd Level.high ++ []) :=
  ⟨⟨show 3 < 4 by decide, show 1 < 2 by decide, hearing_answers _⟩, hearing_answers _, show 0 < 4 by decide,
    hearing_answers _⟩

/-- V22f, V22j (at the first bit), an abort at the last bit. -/
theorem witness_ReadByteIsMsbFirstOrZero :
    vectorParams.byteBits = 8 ∧ (∀ j, j < 8 → (fun _ => 3) j < vectorParams.nBitStart ∧ (fun _ => 1) j < vectorParams.nBitEnd) ∧
    (hearing (leadingBits 0x37 8 (fun _ => 3) (fun _ => 1))).answers =
      leadingBits 0x37 8 (fun _ => 3) (fun _ => 1) ++ [] ∧
    (0 < 8 ∧ (hearing (leadingBits 0x37 0 (fun _ => 3) (fun _ => 1) ++
        List.replicate vectorParams.nBitStart Level.low)).answers =
      leadingBits 0x37 0 (fun _ => 3) (fun _ => 1) ++ List.replicate vectorParams.nBitStart Level.low ++ []) ∧
    (7 < 8 ∧ (hearing (leadingBits 0x37 7 (fun _ => 3) (fun _ => 1) ++ List.replicate ((fun _ => 3) 7) Level.low ++
        [Level.high, Level.high] ++ List.replicate vectorParams.nBitEnd Level.high)).answers =
      leadingBits 0x37 7 (fun _ => 3) (fun _ => 1) ++ List.replicate ((fun _ => 3) 7) Level.low ++ [Level.high, Level.high] ++
        List.replicate vectorParams.nBitEnd Level.high ++ []) :=
  ⟨rfl, fun _ _ => ⟨show 3 < 4 by decide, show 1 < 2 by decide⟩, hearing_answers _, ⟨by decide, hearing_answers _⟩,
    by decide, hearing_answers _⟩

/-- V10 and V16: the valid frame and a change of each byte. -/
theorem witness_AnySingleByteChangeIsDetected :
    (0x4F : Byte) = checksum 0x37 0x00 0x18 0x00 ∧ (0x36 : Byte) ≠ 0x37 ∧ (0x01 : Byte) ≠ 0x00 ∧
      (0x19 : Byte) ≠ 0x18 ∧ (0x80 : Byte) ≠ 0x00 ∧ (0xCF : Byte) ≠ 0x4F := by decide

/-- V12's frame; and V10 with V17, two different accepted frames. -/
theorem witness_SwValidateFollowsTheRelation :
    frameOf (heldReading []) = { b0 := 0, b1 := 0, b2 := 0, b3 := 0, b4 := 0 } ∧
    ∃ s u : State, frameAccepted s = true ∧ frameAccepted u = true ∧ frameOf u ≠ frameOf s := by
  refine ⟨by decide, { State.reset with regs := { State.reset.regs with frame0 := 0x37, frame2 := 0x18, frame4 := 0x4F } },
    { State.reset with regs := { State.reset.regs with frame0 := 0x38, frame2 := 0x17, frame4 := 0x4F } }, ?_, ?_, ?_⟩
    <;> decide

/-- The two outcomes of `SwValidate`: V12 accepted with the all-zero frame, V13 rejected. -/
theorem witness_SwReadAcceptsByTheChecksum :
    (frameOf (swValidate (heldReading [])) = { b0 := 0, b1 := 0, b2 := 0, b3 := 0, b4 := 0 } ∧
      (swValidate (heldReading [])).flags.ckok = true) ∧
    (swValidate { heldReading [] with
      regs := { (heldReading []).regs with frame0 := 0x37, frame2 := 0x18, frame4 := 0x50 } }).flags.ckok = false := by
  decide

/-- The sensor of V20 against the machine's own budgets; and a line that fails the handshake by timeout and then sends a
frame the checksum rejects. -/
theorem witness_SwReadReadsBackTheFrame :
    (Handshake Config.params ([Level.low, Level.high] ++ List.replicate 0 Level.high ++ [Level.low]) Config.params.presOk ∧
      (∀ k, k < 40 → (fun _ => 0) k < Config.params.nBitStart ∧ (fun _ => 0) k < Config.params.nBitEnd) ∧
      (hearing ([Level.low, Level.high] ++ List.replicate 0 Level.high ++ [Level.low] ++
          frameAnswers v20Frame (fun _ => 0) (fun _ => 0))).answers =
        [Level.low, Level.high] ++ List.replicate 0 Level.high ++ [Level.low] ++ frameAnswers v20Frame (fun _ => 0) (fun _ => 0) ++ [] ∧
      v20Frame.b4 = checksum v20Frame.b0 v20Frame.b1 v20Frame.b2 v20Frame.b3) ∧
    Handshake Config.params ([Level.high] ++ List.replicate Config.params.nResp Level.high) Config.params.presTimeout ∧
    { v20Frame with b4 := 0x50 }.b4 ≠ checksum v20Frame.b0 v20Frame.b1 v20Frame.b2 v20Frame.b3 :=
  ⟨⟨.ok 0 (Nat.succ_pos _), fun _ _ => ⟨Nat.succ_pos _, Nat.succ_pos _⟩, hearing_answers _, by decide⟩,
    .noSensorTimeout, by decide⟩

theorem witness_SwReadAgainstTheReferenceSensor :
    SensorFits Config.params 0 (fun _ => 0) (fun _ => 0) ∧
      (hearing (sensorAnswers v20Frame 0 (fun _ => 0) (fun _ => 0))).answers =
        sensorAnswers v20Frame 0 (fun _ => 0) (fun _ => 0) ++ [] :=
  ⟨⟨Nat.succ_pos _, fun _ _ => ⟨Nat.succ_pos _, Nat.succ_pos _⟩⟩, hearing_answers _⟩

/-- A run on the test vectors' budgets that the sensor answers: V20. -/
theorem witness_SwReadAgainstTheReferenceSensor_answered :
    answeredBy (envSensor envStuckLow v20Frame 0 (fun _ => 0) (fun _ => 0)) []
      (swReadBody vectorParams (hearing (sensorAnswers v20Frame 0 (fun _ => 0) (fun _ => 0)))).trace = true := by
  decide +kernel

theorem witness_LineStuckHighReadsAsZero :
    (hearing (List.replicate (1 + Config.params.nResp + 5 * (2 + Config.params.nBitEnd)) Level.high)).answers =
      List.replicate (1 + Config.params.nResp + 5 * (2 + Config.params.nBitEnd)) Level.high ++ [] := hearing_answers _

theorem witness_LineStuckLowReadsAsZero :
    (hearing (List.replicate (3 + 5 * Config.params.nBitStart) Level.low)).answers =
      List.replicate (3 + 5 * Config.params.nBitStart) Level.low ++ [] := hearing_answers _

theorem witness_WriteByteShiftsOutLsbFirst : Config.params.byteBits = 8 ∧ vectorParams.byteBits = 8 := by decide

/-- V28, first row. -/
theorem witness_ReadByteAssemblesLsbFirst :
    vectorParams.byteBits = 8 ∧ (hearing [Level.low, Level.low, Level.low, Level.low, Level.high, Level.high, Level.low, Level.low]).answers =
      [Level.low, Level.low, Level.low, Level.low, Level.high, Level.high, Level.low, Level.low] ++ [] := ⟨rfl, hearing_answers _⟩

theorem witness_RdregStoresTheByteItSampled : (hearing (byteAnswers 0x03)).answers = byteAnswers 0x03 ++ [] :=
  hearing_answers _

/-- V36, first row. -/
theorem witness_GettimeReadsAndDecodesSixFields :
    (hearing (byteAnswers 0x03 ++ byteAnswers 0x40 ++ byteAnswers 0x17 ++ byteAnswers 0x08 ++ byteAnswers 0x12 ++
      byteAnswers 0x24)).answers = byteAnswers 0x03 ++ byteAnswers 0x40 ++ byteAnswers 0x17 ++
        byteAnswers 0x08 ++ byteAnswers 0x12 ++ byteAnswers 0x24 ++ [] := hearing_answers _

theorem witness_WriteAddressRowsSendTheirTransaction :
    (Instr.aSecW 0xFF, (0x80 : Byte)) ∈ writeRows 0xFF ∧ (Instr.aF7W 0x00, (0x8A : Byte)) ∈ writeRows 0x00 ∧
      (Instr.aWpW 0x80, (0x8E : Byte)) ∈ writeRows 0x80 := by decide

theorem witness_ReadAddressRowsReadTheirTransaction :
    (Instr.aSecR, (0x81 : Byte)) ∈ readRows ∧ (Instr.aWpR, (0x8F : Byte)) ∈ readRows ∧
      (hearing (byteAnswers 0xFF)).answers = byteAnswers 0xFF ++ [] := by decide

theorem witness_EveryTransactionHasSixteenPulses : busRests State.reset = true := rfl

theorem witness_BcdDecodeIsTheFormula :
    validBcd 0x99 = true ∧ validBcd 0x00 = true ∧ bcdDec 0x99 = bcdDec 0x99 ∧ validBcd 0x9A = false := by decide

theorem witness_BcdRoundTrips : 0 ≤ 99 ∧ 99 ≤ 99 ∧ 99 < 100 ∧ validBcd 0x45 = true := by decide

theorem witness_StatusByteHoldsThreeFlags : 3 ≤ 3 ∧ 3 ≤ 7 := by decide

theorem witness_IdleReadsReturnTheRegisters :
    (hosted [.read 17]).flags.busy = false ∧ HostNext (hosted [.read 17]) (.read 17) [] ∧
      HostNext (hosted [.read 0]) (.read 0) [] ∧ HostNext (hosted [.read 18]) (.read 18) [] ∧
      HostNext (hosted [.write 1 0xFFFFFF]) (.write 1 0xFFFFFF) [] ∧ 1 ≠ 0 :=
  ⟨rfl, ⟨rfl, rfl⟩, ⟨rfl, rfl⟩, ⟨rfl, rfl⟩, ⟨rfl, rfl⟩, by decide⟩

theorem witness_BusyReadsKeepBusyAndIllTrue :
    HostNext { busyAt .bcd 0x200045 with host := [.read 1] } (.read 1) [] ∧
    ((busyAt .bcd 0x200045).flags.busy = true ∧
      running (busyAt .bcd 0x200045) = some (.bcdDec 0x45) ∧ (.bcdDec 0x45 : Instr) ≠ .swRead ∧
      running (busyAt .swBitSample 0x010000) = some .swRead ∧
      (15 ≠ 1 ∧ 15 ≠ 17 ∧ writesRegister (.bcdDec 0x45) 15 = false) ∧
      (10 ≠ 1 ∧ 10 ≠ 17 ∧ writesRegister .swRead 10 = false)) := ⟨⟨rfl, rfl⟩, by decide⟩

/-- V31, and the control register at the top of the range. -/
theorem witness_ChipReadReturnsTheRegister :
    ((v33Chip 0x80).inTx = false ∧ chipModels 0x81 = true ∧ isReadAddr 0x81 = true ∧
      (hearing (byteAnswers 0x03)).answers = byteAnswers (v33Chip 0x80).reg[regIndex 0x81] ++ []) ∧
    (chipModels 0x8F = true ∧ isReadAddr 0x8F = true) ∧
    ∃ (t : State) (c1 : Chip), exec (.rtcRdreg 0x81) (hearing (byteAnswers 0x03)) = .next t ∧
      t.trace = (hearing (byteAnswers 0x03)).trace ++ t.trace ∧ (v33Chip 0x80).follow t.trace = some c1 := by
  have h : ((v33Chip 0x80).follow
      (after (exec (.rtcRdreg 0x81) (hearing (byteAnswers 0x03)))).trace).isSome = true := by decide +kernel
  obtain ⟨c1, hc⟩ := Option.isSome_iff_exists.mp h
  exact ⟨⟨by decide, by decide, by decide, by decide +kernel⟩, ⟨by decide, by decide⟩, _, c1, rfl,
    (List.nil_append _).symm, hc⟩

theorem witness_ChipWriteObeysWriteProtection :
    (v33Chip 0x80).inTx = false ∧ (chipModels 0x80 = true ∧ isReadAddr 0x80 = false) ∧
      chipModels 0x8E = true ∧ isReadAddr 0x8E = false := by decide

theorem witness_ChipIsSeededAndLockedByInit : (v33Chip 0x80).inTx = false := rfl

theorem witness_GettimeOnADeadLine :
    (hearing (List.replicate 48 Level.high)).answers = List.replicate 48 Level.high ++ [] ∧
      (hearing (List.replicate 48 Level.low)).answers = List.replicate 48 Level.low ++ [] :=
  ⟨hearing_answers _, hearing_answers _⟩

theorem witness_GettimeReadsTheChip :
    (v33Chip 0x80).inTx = false ∧
      (hearing (byteAnswers 0x03 ++ byteAnswers 0x40 ++ byteAnswers 0x17 ++ byteAnswers 0x08 ++ byteAnswers 0x12 ++
        byteAnswers 0x24)).answers =
      byteAnswers (v33Chip 0x80).reg[0] ++ byteAnswers (v33Chip 0x80).reg[1] ++ byteAnswers (v33Chip 0x80).reg[2] ++
        byteAnswers (v33Chip 0x80).reg[3] ++ byteAnswers (v33Chip 0x80).reg[4] ++
        byteAnswers (v33Chip 0x80).reg[6] ++ [] := by decide +kernel

end Sys2Proof.Tests
end

section
/-! SUPPORT. Proof of O16 (R12): the reading, `HUM` and `TEMP`, along a step. First what the line operations, the
transactions and the sequencer's steps leave of the registers, then the one operation that writes the reading,
`SwValidate`. -/

namespace Sys2Proof.Machine

open Sys2Proof Sys2Proof.Claims

/-! ### What a result yields -/

/-- Whatever next value the result holds satisfies `P`; a stop holds none. -/
def Yields {α : Type} (P : α → Prop) (r : Result α) : Prop := ∀ a, r = .next a → P a

@[simp] theorem yields_next {α : Type} (P : α → Prop) (a : α) : Yields P (.next a) ↔ P a := by
  simp [Yields]

@[simp] theorem yields_refused {α : Type} (P : α → Prop) (e : Refusal) : Yields P (.refused e) := by
  simp [Yields]

theorem Yields.mono {α : Type} {P Q : α → Prop} {r : Result α} (h : Yields P r) (hPQ : ∀ a, P a → Q a) :
    Yields Q r := fun a ha => hPQ a (h a ha)

theorem Yields.mapNext {α β : Type} {P : α → Prop} {Q : β → Prop} {r : Result α} {f : α → β} (h : Yields P r)
    (hf : ∀ a, P a → Q (f a)) : Yields Q (r.mapNext f) := by
  cases r with
  | next a => simpa using hf a (h a rfl)
  | fault e => nomatch e
  | refused e => simp

/-! ### Operations that leave every register alone -/

@[simp] theorem sampleLine_regs (l : BiLine) (s : State) : (sampleLine l s).2.regs = s.regs :=
  (listens_sampleLine l s).regs

@[simp] theorem swCheckResponse_regs (p : Params) (s : State) : (swCheckResponse p s).2.regs = s.regs :=
  (listens_swCheckResponse p s).regs

@[simp] theorem swReadBit_regs (p : Params) (s : State) : (swReadBit p s).2.regs = s.regs :=
  (listens_swReadBit p s).regs

@[simp] theorem swReadBits_regs (p : Params) (js : List Nat) (s : State) : (swReadBits p js s).2.regs = s.regs := by
  induction js generalizing s with
  | nil => rfl
  | cons j js ih =>
    have hbit := swReadBit_regs p s
    simp only [swReadBits]
    split <;> rename_i heq <;> rw [heq] at hbit
    · exact hbit
    · simpa [ih] using hbit

@[simp] theorem swReadByte_regs (p : Params) (s : State) : (swReadByte p s).2.regs = s.regs := by
  have hbits := swReadBits_regs p (List.range p.byteBits) (clearV s)
  simp only [swReadByte]
  split <;> rename_i heq <;> simpa [heq] using hbits

@[simp] theorem swStart_regs (p : Params) (s : State) : (swStart p s).regs = s.regs := by
  simp [swStart, delayMs]

@[simp] theorem writeBit_regs (p : Params) (s : State) : (writeBit p s).regs = s.regs := by
  obtain ⟨d, h⟩ := writeBit_spec p s
  rw [h]

@[simp] theorem writeBits_regs (p : Params) (n : Nat) (s : State) : (writeBits p n s).regs = s.regs := by
  induction n generalizing s with
  | zero => rfl
  | succ n ih => simp [writeBits, ih]

@[simp] theorem writeByte_regs (p : Params) (v : Byte) (s : State) : (writeByte p v s).regs = s.regs := by
  simp [writeByte]

@[simp] theorem readBit_regs (p : Params) (s : State) : (readBit p s).regs = s.regs := by
  obtain ⟨d, h⟩ := readBit_spec p s
  rw [h]

@[simp] theorem readBits_regs (p : Params) (n : Nat) (s : State) : (readBits p n s).regs = s.regs := by
  induction n generalizing s with
  | zero => rfl
  | succ n ih => simp [readBits, ih]

@[simp] theorem readByte_regs (p : Params) (s : State) : (readByte p s).regs = s.regs := by
  simp [readByte]

@[simp] theorem writeRegister_regs (p : Params) (a v : Byte) (s : State) : (writeRegister p a v s).regs = s.regs := by
  simp [writeRegister, beginTransaction, endTransaction]

@[simp] theorem readRegister_regs (p : Params) (a : Byte) (s : State) : (readRegister p a s).regs = s.regs := by
  simp [readRegister, beginTransaction, endTransaction]

@[simp] theorem writeAll_regs (p : Params) (ws : List (Byte × Byte)) (s : State) : (writeAll p ws s).regs = s.regs := by
  induction ws generalizing s with
  | nil => rfl
  | cons w ws ih => exact (ih _).trans (writeRegister_regs p w.1 w.2 s)

@[simp] theorem acceptCommand_regs (w : Word24) (i : Instr) (s : State) : (acceptCommand w i s).regs = s.regs := rfl

@[simp] theorem hostRead_regs (p : Params) (n : Nat) (s : State) : (hostRead p n s).regs = s.regs := by
  obtain ⟨w, k, d, h⟩ := hostRead_spec p n s
  rw [h]

@[simp] theorem hostWrite_regs (n : Nat) (w : Word24) (s : State) : (hostWrite n w s).regs = s.regs := by
  obtain h | ⟨_, _, i, _, h⟩ | ⟨_, _, h⟩ := hostWrite_cases n w s <;> simp [h]

theorem drive_yields_regs (l : Line) (v : Level) (s : State) : Yields (fun t => t.regs = s.regs) (drive l v s) := by
  unfold drive
  split <;> simp

theorem sample_yields_regs (l : BiLine) (s : State) : Yields (fun r => r.2.regs = s.regs) (sample l s) := by
  unfold sample
  split <;> simp

theorem pollStep_yields_regs (l : BiLine) (v : Level) (n : Nat) (s : State) :
    Yields (fun r => r.2.regs = s.regs) (pollStep l v n s) := by
  unfold pollStep
  split
  · refine (sample_yields_regs l s).mapNext fun r hr => ?_
    split <;> simpa using hr
  · simp

/-! ### Operations that write a register, but not the reading -/

/-- The reading: `HUM` and `TEMP` (R12). -/
def Regs.reading (r : Regs) : Byte × Byte := (r.hum, r.temp)

@[simp] theorem setFrame_reading (k : FrameIx) (b : Byte) (s : State) :
    (setFrame k b s).regs.reading = s.regs.reading := by cases k <;> rfl

@[simp] theorem setTime_reading (f : TimeField) (b : Byte) (s : State) :
    (setTime f b s).regs.reading = s.regs.reading := by cases f <;> rfl

@[simp] theorem reading_pres_update (b : Byte) (r : Regs) : Regs.reading { r with pres := b } = r.reading := rfl

@[simp] theorem reading_rdata_update (b : Byte) (r : Regs) : Regs.reading { r with rdata := b } = r.reading := rfl

@[simp] theorem swStorePresence_reading (p : Params) (s : State) :
    (swStorePresence p s).regs.reading = s.regs.reading := by
  simp [swStorePresence]

@[simp] theorem swReadInto_reading (p : Params) (k : FrameIx) (s : State) :
    (swReadInto p k s).regs.reading = s.regs.reading := by
  simp [swReadInto]

@[simp] theorem swReadFrame_reading (p : Params) (s : State) : (swReadFrame p s).regs.reading = s.regs.reading := by
  unfold swReadFrame
  induction frameOrder p generalizing s with
  | nil => rfl
  | cons k ks ih => simp [ih]

@[simp] theorem readField_reading (p : Params) (s : State) (f : TimeField) :
    (readField p s f).regs.reading = s.regs.reading := by
  simp [readField, storeTime]

@[simp] theorem getTimeBody_reading (p : Params) (s : State) : (getTimeBody p s).regs.reading = s.regs.reading := by
  unfold getTimeBody
  induction timeFields generalizing s with
  | nil => rfl
  | cons f fs ih => simp [ih]

@[simp] theorem storeTx_reading (i : Instr) (s : State) : (storeTx i s).regs.reading = s.regs.reading := by
  unfold storeTx
  split
  · simp [storeRdata]
  · split <;> simp [storeTime]
  · rfl

@[simp] theorem enterByte_regs (k : FrameIx) (s : State) : (enterByte k s).regs = s.regs := rfl

@[simp] theorem enterGuard_regs (c : Byte) (s : State) : (enterGuard c s).regs = s.regs := rfl

@[simp] theorem leaveCheck_reading (c : Byte) (s : State) : (leaveCheck c s).regs.reading = s.regs.reading := rfl

@[simp] theorem nextByte_reading (p : Params) (b : Byte) (s : State) :
    (nextByte p b s).regs.reading = s.regs.reading := by
  simp only [nextByte]
  split <;> simp

@[simp] theorem finishBit_reading (p : Params) (s : State) : (finishBit p s).regs.reading = s.regs.reading := by
  simp only [finishBit]
  split <;> simp [enterBit]

/-- Every next state of the result has the reading of `s`. -/
abbrev YieldsReadingOf (s : State) : Result State → Prop := Yields fun t => t.regs.reading = s.regs.reading

theorem drive_mapNext_reading (l : Line) (v : Level) (s : State) {f : State → State}
    (hf : ∀ t, (f t).regs.reading = t.regs.reading) : YieldsReadingOf s ((drive l v s).mapNext f) :=
  (drive_yields_regs l v s).mapNext fun t ht => (hf t).trans (by rw [ht])

theorem sample_mapNext_reading (l : BiLine) (s : State) {f : Level × State → State}
    (hf : ∀ r, (f r).regs.reading = r.2.regs.reading) : YieldsReadingOf s ((sample l s).mapNext f) :=
  (sample_yields_regs l s).mapNext fun r hr => (hf r).trans (by rw [hr])

theorem pollStep_mapNext_reading (l : BiLine) (v : Level) (n : Nat) (s : State) {f : Poll × State → State}
    (hf : ∀ r, (f r).regs.reading = r.2.regs.reading) : YieldsReadingOf s ((pollStep l v n s).mapNext f) :=
  (pollStep_yields_regs l v n s).mapNext fun r hr => (hf r).trans (by rw [hr])

theorem startStep_reading (p : Params) (k : StartOp) (s : State) : YieldsReadingOf s (startStep p k s) := by
  cases k with
  | driveLow | driveHigh => exact drive_mapNext_reading _ _ _ fun _ => rfl
  | toOutput | holdLow | holdHigh | release => simp [startStep, delayMs]

theorem checkStep_reading (p : Params) (k : CheckOp) (s : State) : YieldsReadingOf s (checkStep p k s) := by
  cases k with
  | waitAnswer | waitHigh => simp [checkStep]
  | firstSample | secondSample =>
    refine sample_mapNext_reading _ _ fun r => ?_
    split <;> simp
  | guard =>
    refine pollStep_mapNext_reading _ _ _ _ fun r => ?_
    split <;> simp

theorem waitHighStep_reading (p : Params) (s : State) : YieldsReadingOf s (waitHighStep p s) := by
  refine pollStep_mapNext_reading _ _ _ _ fun r => ?_
  split <;> simp

theorem bitSampleStep_reading (s : State) : YieldsReadingOf s (bitSampleStep s) :=
  sample_mapNext_reading _ _ fun _ => rfl

theorem waitLowStep_reading (p : Params) (s : State) : YieldsReadingOf s (waitLowStep p s) := by
  refine pollStep_mapNext_reading _ _ _ _ fun r => ?_
  split <;> simp

theorem beginStep_reading (k : BeginOp) (s : State) : YieldsReadingOf s (beginStep k s) := by
  cases k <;> exact drive_mapNext_reading _ _ _ fun _ => rfl

theorem afterByte_reading (p : Params) (s : State) : YieldsReadingOf s (afterByte p s) := by
  unfold afterByte
  split
  · simp
  · split <;> simp

theorem afterBit_reading (p : Params) (again : Phase) (s : State) : YieldsReadingOf s (afterBit p again s) := by
  unfold afterBit
  split
  · simp
  · exact afterByte_reading p s

theorem wrBitStep_reading (p : Params) (k : BitOp) (s : State) : YieldsReadingOf s (wrBitStep p k s) := by
  cases k with
  | turn =>
    simp only [wrBitStep]
    split <;> simp
  | level | clockHigh | clockLow => exact drive_mapNext_reading _ _ _ fun _ => rfl
  | highTime => simp [wrBitStep]
  | lowTime => exact afterBit_reading p _ (shiftSh (delayUs p p.tClkPhaseUs s))

theorem rdBitStep_reading (p : Params) (k : BitOp) (s : State) : YieldsReadingOf s (rdBitStep p k s) := by
  cases k with
  | level => exact sample_mapNext_reading .dat (shiftAcc s) fun _ => rfl
  | clockHigh | clockLow => exact drive_mapNext_reading _ _ _ fun _ => rfl
  | turn | highTime => simp [rdBitStep]
  | lowTime => exact afterBit_reading p _ (delayUs p p.tClkPhaseUs s)

theorem endStep_reading (p : Params) (s : State) : YieldsReadingOf s (endStep p s) := by
  unfold endStep
  split
  · simp
  · refine drive_mapNext_reading _ _ _ fun s1 => ?_
    dsimp only
    split <;> simp

theorem bcdStep_reading (s : State) : YieldsReadingOf s (bcdStep s) := by
  unfold bcdStep
  split <;> simp

/-- Every instruction but `SW.READ`, run whole, keeps the reading. -/
theorem exec_reading {i : Instr} (hi : i ≠ .swRead) (s : State) : YieldsReadingOf s (exec i s) := by
  rw [exec_eq_execWith]
  cases i with
  | swRead => exact absurd rfl hi
  | rtcWrreg | rtcRdreg | rtcInit | rtcGettime | bcdDec =>
    simp [execWith, runRtcWrreg, runRtcRdreg, runRtcInit, runRtcGettime, runBcdDec, runCommand, storeRdata]
  | aSecW v | aMinW v | aHourW v | aDateW v | aMonthW v | aF7W v | aYearW v | aWpW v =>
    exact (yields_next _ _).mpr (congrArg Regs.reading (writeRegister_regs Config.params _ v s))
  | aSecR | aMinR | aHourR | aDateR | aMonthR | aF7R | aYearR | aWpR =>
    exact (yields_next _ _).mpr (congrArg Regs.reading (readRegister_regs Config.params _ s))

/-! ### The operation that writes the reading -/

/-- The frame registers hold an accepted frame, and the reading is its bytes 0 and 2 (R116). -/
def FrameTaken (t : State) : Prop :=
  t.flags.ckok = true ∧ frameAccepted t = true ∧ t.regs.hum = t.regs.frame0 ∧ t.regs.temp = t.regs.frame2

/-- From `s` to `t` the reading was kept, or it was taken from an accepted frame (R12). -/
def ReadingKeptOrTaken (s t : State) : Prop := t.regs.reading = s.regs.reading ∨ FrameTaken t

theorem YieldsReadingOf.keptOrTaken {s : State} {r : Result State} (h : YieldsReadingOf s r) :
    Yields (ReadingKeptOrTaken s) r := h.mono fun _ => .inl

/-- The end of a command touches neither the frame nor the reading nor `CKOK`. -/
theorem ReadingKeptOrTaken.endCommand {s t : State} (h : ReadingKeptOrTaken s t) :
    ReadingKeptOrTaken s (endCommand t) := h

theorem swValidate_of_accepted {s : State} (h : frameAccepted s = true) :
    swValidate s = setCkok true (takeReading s) := by
  simp [swValidate, h]

theorem swValidate_of_rejected {s : State} (h : frameAccepted s = false) : swValidate s = setCkok false s := by
  simp [swValidate, h]

/-- `SwValidate` takes an accepted frame and keeps the reading otherwise. -/
theorem swValidate_readingKeptOrTaken (s : State) : ReadingKeptOrTaken s (swValidate s) := by
  cases h : frameAccepted s with
  | true => exact swValidate_of_accepted h ▸ .inr ⟨rfl, h, rfl, rfl⟩
  | false => exact swValidate_of_rejected h ▸ .inl rfl

/-- `SW.READ` writes the reading in its last phase only. -/
theorem swReadBody_readingKeptOrTaken (p : Params) (s : State) : ReadingKeptOrTaken s (swReadBody p s) := by
  have hbefore : (swReadFrame p (swStorePresence p (swStart p s))).regs.reading = s.regs.reading := by simp
  exact (swValidate_readingKeptOrTaken _).imp_left (·.trans hbefore)

theorem execSwRead_readingKeptOrTaken (s : State) : Yields (ReadingKeptOrTaken s) (exec .swRead s) := by
  rw [exec_eq_execWith, execWith, runSwRead, runCommand, yields_next]
  exact (swReadBody_readingKeptOrTaken Config.params (beginCommand s)).endCommand

theorem exec_readingKeptOrTaken (i : Instr) (s : State) : Yields (ReadingKeptOrTaken s) (exec i s) := by
  by_cases hi : i = .swRead
  · subst hi
    exact execSwRead_readingKeptOrTaken s
  · exact (exec_reading hi s).keptOrTaken

/-- Of the phases, `SW_VALIDATE` alone writes the reading. -/
theorem engineStep_readingKeptOrTaken (p : Params) (s : State) : Yields (ReadingKeptOrTaken s) (engineStep p s) := by
  cases hphase : s.seq.phase <;> simp only [engineStep, hphase]
  case swValidate => exact (yields_next _ _).mpr (swValidate_readingKeptOrTaken s).endCommand
  case idle | swBitDelay => exact (yields_next _ _).mpr (.inl rfl)
  case swStart k => exact (startStep_reading p k s).keptOrTaken
  case swCheck k => exact (checkStep_reading p k s).keptOrTaken
  case swBitWaitHigh => exact (waitHighStep_reading p s).keptOrTaken
  case swBitSample => exact (bitSampleStep_reading s).keptOrTaken
  case swBitWaitLow => exact (waitLowStep_reading p s).keptOrTaken
  case rtcBegin k => exact (beginStep_reading k s).keptOrTaken
  case rtcWrBit k => exact (wrBitStep_reading p k s).keptOrTaken
  case rtcRdBit k => exact (rdBitStep_reading p k s).keptOrTaken
  case rtcEnd => exact (endStep_reading p s).keptOrTaken
  case bcd => exact (bcdStep_reading s).keptOrTaken

/-- A step that is not reset keeps the reading or takes it from an accepted frame. -/
theorem step_readingKeptOrTaken {s : State} (hr : ¬ ResetNext s) : Yields (ReadingKeptOrTaken s) (step s) := by
  obtain ⟨_, _, _, h | ⟨i, _, _, h⟩⟩ | ⟨hp, ⟨_, h⟩ | ⟨rest, hact⟩⟩ := step_cases s
  · exact h ▸ (yields_next _ _).mpr (.inl rfl)
  · exact h ▸ exec_readingKeptOrTaken i { s with probe := none }
  · exact h ▸ engineStep_readingKeptOrTaken Config.params s
  · obtain ⟨_, h⟩ | ⟨hh, _⟩ | ⟨n, _, h⟩ | ⟨n, w, _, h⟩ | ⟨w, i, _, _, _, h⟩ | ⟨w, _, h | h⟩ := hact
    · exact h ▸ engineStep_readingKeptOrTaken Config.params { s with host := rest }
    · exact absurd ⟨rest, hp, hh⟩ hr
    · exact h ▸ (yields_next _ _).mpr (.inl (congrArg Regs.reading (hostRead_regs ..)))
    · exact h ▸ (yields_next _ _).mpr (.inl (congrArg Regs.reading (hostWrite_regs ..)))
    · exact h ▸ exec_readingKeptOrTaken i { s with host := rest }
    · exact h ▸ (yields_next _ _).mpr (.inl rfl)
    · exact h ▸ (yields_next _ _).mpr (.inl rfl)

/-- Settles O16: along every step but reset the reading is kept, or `SwValidate` has just taken it from an accepted
frame; a step that changes `HUM` or `TEMP` is of the second kind. -/
theorem onlyAnAcceptedFrameWritesTheReading : Obligations.OnlyAnAcceptedFrameWritesTheReading := by
  intro s t hstep hr hchanged
  obtain hkept | htaken := step_readingKeptOrTaken hr t hstep
  · obtain ⟨hhum, htemp⟩ := Prod.ext_iff.mp hkept
    exact absurd htemp (hchanged.resolve_left (· hhum))
  · exact htaken

end Sys2Proof.Machine
end

section
/-! SUPPORT. Proof of O8 (R63): which command words decode, and what a step makes of a command word the host sends,
issued or written bare: dropped while busy, `ILL` while idle if it does not decode. -/

namespace Sys2Proof

open Sys2Proof.Claims

/-- The command table has a row for exactly the legal opcodes (R61). -/
theorem mem_legalOps_iff_row (op : Byte) : op ∈ legalOps ↔ ∃ r ∈ cmdRows, r.op = op := by
  have hops : legalOps = cmdRows.map CmdRow.op := rfl
  rw [hops, List.mem_map]

/-- A command word with a legal opcode decodes, whatever its operand bytes (R63). -/
theorem decodeCmd_of_legal {w : Word24} (h : opField w ∈ legalOps) : ∃ i, decodeCmd w = .ok i := by
  obtain ⟨r, hr, hop⟩ := (mem_legalOps_iff_row _).mp h
  have hfound : (cmdRows.find? fun r => r.op == opField w).isSome :=
    List.find?_isSome.mpr ⟨r, hr, beq_iff_eq.mpr hop⟩
  obtain ⟨r', hr'⟩ := Option.isSome_iff_exists.mp hfound
  exact ⟨r'.build (aField w) (bField w), by simp only [decodeCmd, hr']⟩

/-- A command word with any other opcode is rejected by the name of its opcode (R63). -/
theorem decodeCmd_of_illegal {w : Word24} (h : opField w ∉ legalOps) :
    decodeCmd w = .error (.undefinedOpcode (opField w)) := by
  have hnone : cmdRows.find? (fun r => r.op == opField w) = none :=
    List.find?_eq_none.mpr fun r hr hop => h ((mem_legalOps_iff_row _).mpr ⟨r, hr, beq_iff_eq.mp hop⟩)
  simp only [decodeCmd, hnone]

end Sys2Proof

namespace Sys2Proof.Machine

open Sys2Proof Sys2Proof.Claims

/-- A step in which the host acts carries out its action, the action consumed. -/
theorem step_of_hostNext {s : State} {act : HostAct} {rest : List HostAct} (h : HostNext s act rest) :
    step s = hostStep Config.params exec act { s with host := rest } := by
  obtain ⟨hprobe, hhost⟩ := h
  simp only [step, stepWith, hprobe, hhost]

/-! ### A command word the host sends -/

theorem hostStep_issue_of_busy (p : Params) (exe : Instr → State → Result State) (w : Word24) {s : State}
    (hb : s.flags.busy = true) : hostStep p exe (.issue w) s = .next s := by
  simp [hostStep, takeCommand, hb, carryOut]

theorem hostStep_write_cmd_of_busy (p : Params) (exe : Instr → State → Result State) (w : Word24) {s : State}
    (hb : s.flags.busy = true) : hostStep p exe (.write 0 w) s = .next s := by
  simp [hostStep, hostWrite, writeCmd, hb]

theorem hostStep_issue_of_undecoded (p : Params) (exe : Instr → State → Result State) {w : Word24} {s : State}
    {e : DecodeError} (hb : s.flags.busy = false) (hd : decodeCmd w = .error e) :
    hostStep p exe (.issue w) s = .next (markIllegal s) := by
  simp [hostStep, takeCommand, hb, decode, hd, carryOut]

theorem hostStep_write_cmd_of_undecoded (p : Params) (exe : Instr → State → Result State) {w : Word24} {s : State}
    {e : DecodeError} (hb : s.flags.busy = false) (hd : decodeCmd w = .error e) :
    hostStep p exe (.write 0 w) s = .next (markIllegal s) := by
  simp [hostStep, hostWrite, writeCmd, hb, hd]

/-- Any command word that comes while `BUSY = 1` is dropped (R215). -/
theorem step_cmdWord_of_busy {s : State} {w : Word24} {rest : List HostAct}
    (h : HostNext s (.issue w) rest ∨ HostNext s (.write 0 w) rest) (hb : s.flags.busy = true) :
    step s = .next { s with host := rest } := by
  obtain hissue | hwrite := h
  · exact (step_of_hostNext hissue).trans (hostStep_issue_of_busy _ _ w hb)
  · exact (step_of_hostNext hwrite).trans (hostStep_write_cmd_of_busy _ _ w hb)

/-- A command word that does not decode, come while `BUSY = 0`, sets `ILL` and does nothing else (R63). -/
theorem step_cmdWord_of_undecoded {s : State} {w : Word24} {rest : List HostAct} {e : DecodeError}
    (h : HostNext s (.issue w) rest ∨ HostNext s (.write 0 w) rest) (hb : s.flags.busy = false)
    (hd : decodeCmd w = .error e) : step s = .next (markIllegal { s with host := rest }) := by
  obtain hissue | hwrite := h
  · exact (step_of_hostNext hissue).trans (hostStep_issue_of_undecoded _ _ hb hd)
  · exact (step_of_hostNext hwrite).trans (hostStep_write_cmd_of_undecoded _ _ hb hd)

/-- Settles O8: an illegal opcode has no row of the command table, so its word does not decode; `BUSY` is tested before
the opcode, and the decoder looks at no operand. -/
theorem illegalWordOnlySetsIll : Obligations.IllegalWordOnlySetsIll := by
  refine ⟨fun s w rest hnext hop => ⟨fun hidle => ?_, fun hbusy => ?_⟩, fun w hop => decodeCmd_of_legal hop⟩
  · exact step_cmdWord_of_undecoded hnext hidle (decodeCmd_of_illegal hop)
  · exact step_cmdWord_of_busy hnext hbusy

end Sys2Proof.Machine
end

section
/-! SUPPORT. Proof of O20 (R90, R91, R92): each line operation as one equation of whole states. -/

namespace Sys2Proof.Machine

open Sys2Proof Sys2Proof.Claims

/-- Settles O20: the mode writes are not guarded, `CLK` and `CE` are always in Output mode, and a drive of `SW` or `DAT`
in Output mode is the unchecked drive. -/
theorem lineOperationsWriteOneLine : Obligations.LineOperationsWriteOneLine := by
  intro s v
  refine ⟨?setOutputSw, ?setOutputDat, ?setInputSw, ?setInputDat, ?driveClk, ?driveCe, ?driveSw, ?driveDat⟩
  case setOutputSw | setOutputDat | setInputSw | setInputDat => rfl
  case driveClk => exact drive_clk v s
  case driveCe => exact drive_ce v s
  case driveSw => exact fun hmode => drive_of_output (l := .sw) hmode v
  case driveDat => exact fun hmode => drive_of_output (l := .dat) hmode v

end Sys2Proof.Machine
end

section
/-! SUPPORT. Proof of O24 (R110): what `SwStart` makes of each field of the state. -/

namespace Sys2Proof.Machine

open Sys2Proof Sys2Proof.Claims

@[simp] theorem swStart_trace (p : Params) (s : State) : (swStart p s).trace = s.trace ++ swStartEvents p := by
  simp [swStart, delayMs, swStartEvents]

/-- Output during the pulse, Input after, the latch High (R110). -/
@[simp] theorem swStart_pins (p : Params) (s : State) :
    (swStart p s).pins = { s.pins with swMode := .input, swLatch := .high } := by
  simp [swStart, delayMs, setMode, setLatch]

@[simp] theorem swStart_flags (p : Params) (s : State) : (swStart p s).flags = s.flags := by
  simp [swStart, delayMs]

@[simp] theorem swStart_hidden (p : Params) (s : State) : (swStart p s).hidden = s.hidden := by
  simp [swStart, delayMs]

@[simp] theorem swStart_seq (p : Params) (s : State) : (swStart p s).seq = s.seq := by
  simp [swStart, delayMs]

@[simp] theorem swStart_answers (p : Params) (s : State) : (swStart p s).answers = s.answers := by
  simp [swStart, delayMs]

theorem swStart_hostKept (p : Params) (s : State) : HostKept s (swStart p s) := by
  simp [HostKept, swStart, delayMs]

/-- Settles O24: the field lemmas of `SwStart` together; `swStartEvents` lists the six events. -/
theorem swStartEmitsSixEvents : Obligations.SwStartEmitsSixEvents := fun p s =>
  ⟨swStart_trace p s, swStart_pins p s, swStart_regs p s, swStart_flags p s, swStart_hidden p s, swStart_seq p s,
    swStart_answers p s, swStart_hostKept p s⟩

end Sys2Proof.Machine
end

section
/-! SUPPORT. Proofs of O25, O26 and O27 (R111, R112, R113): the engine listening to `SW` while the environment's answers
are listed. Each operation is said once, by what it returns, the events it records and the answers it leaves; the larger
ones chain the smaller. -/

namespace Sys2Proof.Machine

open Sys2Proof Sys2Proof.Claims

/-! ### Listening to listed answers -/

/-- From `s` to `t` the engine only listens to `SW`, records exactly the events `es` and leaves the answers `rest`. -/
structure Hears (es : List Event) (rest : List Level) (s t : State) : Prop where
  listens : Listens .sw s t
  trace : t.trace = s.trace ++ es
  answers : t.answers = rest

theorem Hears.trans {es fs : List Event} {rest rest' : List Level} {s t u : State} (h : Hears es rest s t)
    (k : Hears fs rest' t u) : Hears (es ++ fs) rest' s u :=
  ⟨h.listens.trans k.listens, by rw [k.trace, h.trace, List.append_assoc], k.answers⟩

/-- A listening operation, run from `s`, returns `a`, records `es` and leaves the answers `rest`. -/
def Returns {α : Type} (a : α) (es : List Event) (rest : List Level) (s : State) (r : α × State) : Prop :=
  ∃ t, r = (a, t) ∧ Hears es rest s t

theorem Listens.onlyListened {l : BiLine} {s t : State} (h : Listens l s t) : OnlyListened s t :=
  ⟨h.flags, h.regs, h.pins, h.seq, h.host, h.hostData, h.probe⟩

/-- The four claims the statements make of a listening operation. -/
theorem Returns.claims {α : Type} {a : α} {es : List Event} {rest : List Level} {s : State} {r : α × State}
    (h : Returns a es rest s r) :
    r.1 = a ∧ r.2.answers = rest ∧ r.2.trace = s.trace ++ es ∧ OnlyListened s r.2 := by
  obtain ⟨t, rfl, hears⟩ := h
  exact ⟨rfl, hears.answers, hears.trace, hears.listens.onlyListened⟩

theorem hears_delayUs (p : Params) (n : Nat) (s : State) : Hears [.delay n] s.answers s (delayUs p n s) :=
  ⟨listens_delayUs .sw p n s, rfl, rfl⟩

theorem sampleLine_returns {v : Level} {rest : List Level} {s : State} (h : s.answers = v :: rest) :
    Returns v [.sample .sw v] rest s (sampleLine .sw s) := by
  have hlisten := listens_sampleLine .sw s
  rw [sampleLine_listed h] at hlisten ⊢
  exact ⟨_, rfl, hlisten, rfl, rfl⟩

/-- A delay, then a sample. -/
theorem sampleLine_delayUs_returns (p : Params) (n : Nat) {v : Level} {rest : List Level} {s : State}
    (h : s.answers = v :: rest) :
    Returns v [.delay n, .sample .sw v] rest s (sampleLine .sw (delayUs p n s)) := by
  obtain ⟨t, hsample, hears⟩ := sampleLine_returns (s := delayUs p n s) h
  exact ⟨t, hsample, (hears_delayUs p n s).trans hears⟩

/-! ### The spin-wait (R96) -/

theorem other_ne (v : Level) : other v ≠ v := by cases v <;> decide

/-- A poll that reads the other level passes the wait on to its remaining budget. -/
theorem spinUntil_poll_other {v : Level} {rest : List Level} {s : State} (n : Nat)
    (h : s.answers = other v :: rest) :
    ∃ t, spinUntil .sw v (n + 1) s = spinUntil .sw v n t ∧ Hears [.sample .sw (other v)] rest s t := by
  obtain ⟨t, hsample, hears⟩ := sampleLine_returns h
  exact ⟨t, by simp [spinUntil, hsample, other_ne], hears⟩

/-- The wanted level comes within the budget. -/
theorem spinUntil_returns_reached {v : Level} {rest : List Level} {k n : Nat} {s : State} (hk : k < n)
    (h : s.answers = List.replicate k (other v) ++ v :: rest) :
    Returns .reached (List.replicate k (.sample .sw (other v)) ++ [.sample .sw v]) rest s
      (spinUntil .sw v n s) := by
  induction k generalizing n s with
  | zero =>
    obtain ⟨n, rfl⟩ := Nat.exists_eq_add_of_lt hk
    obtain ⟨t, hsample, hears⟩ := sampleLine_returns (rest := rest) (v := v) (by simpa using h)
    exact ⟨t, by simp [spinUntil, hsample], hears⟩
  | succ k ih =>
    obtain ⟨n, rfl⟩ := Nat.exists_eq_add_of_lt hk
    obtain ⟨t, hpoll, hears⟩ := spinUntil_poll_other (k + 1 + n) h
    obtain ⟨u, hrest, hears'⟩ := ih (n := k + 1 + n) (by omega) hears.answers
    exact ⟨u, hpoll.trans hrest, hears.trans hears'⟩

/-- Every poll of the budget reads the other level. -/
theorem spinUntil_returns_exhausted {v : Level} {rest : List Level} {n : Nat} {s : State}
    (h : s.answers = List.replicate n (other v) ++ rest) :
    Returns .exhausted (List.replicate n (.sample .sw (other v))) rest s (spinUntil .sw v n s) := by
  induction n generalizing s with
  | zero => exact ⟨s, rfl, Listens.refl _ s, by simp, by simpa using h⟩
  | succ n ih =>
    obtain ⟨t, hpoll, hears⟩ := spinUntil_poll_other n h
    obtain ⟨u, hrest, hears'⟩ := ih hears.answers
    exact ⟨u, hpoll.trans hrest, hears.trans hears'⟩

/-! ### The response check (R111) -/

/-- The code the second sample chooses: ok for a High, error for a Low. -/
def secondCode (p : Params) : Level → Byte
  | .high => p.presOk
  | .low => p.presErr

/-- A High first sample: no sensor, and no second sample. -/
theorem swProbe_returns_none (p : Params) {rest : List Level} {s : State} (h : s.answers = .high :: rest) :
    Returns p.presNone [.delay p.tRespWaitUs, .sample .sw .high] rest s (swProbe p s) := by
  obtain ⟨t, hfirst, hears⟩ := sampleLine_delayUs_returns p p.tRespWaitUs h
  exact ⟨t, by simp [swProbe, hfirst], hears⟩

/-- A Low first sample: the second sample, after its wait, chooses between ok and error. -/
theorem swProbe_returns_second (p : Params) {v : Level} {rest : List Level} {s : State}
    (h : s.answers = .low :: v :: rest) :
    Returns (secondCode p v)
      [.delay p.tRespWaitUs, .sample .sw .low, .delay p.tRespHighUs, .sample .sw v] rest s (swProbe p s) := by
  obtain ⟨t, hfirst, hears⟩ := sampleLine_delayUs_returns p p.tRespWaitUs h
  obtain ⟨u, hsecond, hears'⟩ := sampleLine_delayUs_returns p p.tRespHighUs hears.answers
  exact ⟨u, by cases v <;> simp [swProbe, secondCode, hfirst, hsecond], hears.trans hears'⟩

/-- The guard is reached: the code is the one the samples chose. -/
theorem swCheckResponse_returns_of_guard_reached {p : Params} {code : Byte} {es : List Event} {g : Nat}
    {rest : List Level} {s : State} (hg : g < p.nResp)
    (hprobe : Returns code es (List.replicate g .high ++ .low :: rest) s (swProbe p s)) :
    Returns code (es ++ (List.replicate g (.sample .sw .high) ++ [.sample .sw .low])) rest s (swCheckResponse p s) := by
  obtain ⟨t, hprobe, hears⟩ := hprobe
  obtain ⟨u, hguard, hears'⟩ := spinUntil_returns_reached (v := .low) hg hears.answers
  exact ⟨u, by simp [swCheckResponse, hprobe, hguard], hears.trans hears'⟩

/-- The guard is exhausted: its timeout overrides the code the samples chose. -/
theorem swCheckResponse_returns_of_guard_exhausted {p : Params} {code : Byte} {es : List Event} {rest : List Level}
    {s : State} (hprobe : Returns code es (List.replicate p.nResp .high ++ rest) s (swProbe p s)) :
    Returns p.presTimeout (es ++ List.replicate p.nResp (.sample .sw .high)) rest s (swCheckResponse p s) := by
  obtain ⟨t, hprobe, hears⟩ := hprobe
  obtain ⟨u, hguard, hears'⟩ := spinUntil_returns_exhausted (v := .low) hears.answers
  exact ⟨u, by simp [swCheckResponse, hprobe, hguard], hears.trans hears'⟩

/-- Settles O25: the samples' code, row by row, with the guard reached or exhausted after it. -/
theorem responseCheckFollowsItsTable : Obligations.ResponseCheckFollowsItsTable := by
  intro p s hs rest code hrow hanswers
  suffices h : Returns code (checkEvents p hs) rest s (swCheckResponse p s) from h.claims
  cases hrow with
  | noSensor g hg =>
    simpa [checkEvents] using
      swCheckResponse_returns_of_guard_reached hg (swProbe_returns_none p (by simpa using hanswers))
  | noSensorTimeout =>
    simpa [checkEvents] using
      swCheckResponse_returns_of_guard_exhausted (swProbe_returns_none p (by simpa using hanswers))
  | ok g hg | error g hg =>
    simpa [checkEvents, secondCode] using
      swCheckResponse_returns_of_guard_reached hg (swProbe_returns_second p (by simpa using hanswers))
  | okTimeout | errorTimeout =>
    simpa [checkEvents, secondCode] using
      swCheckResponse_returns_of_guard_exhausted (swProbe_returns_second p (by simpa using hanswers))

/-! ### One bit (R112) -/

/-- The events of a bit up to its sample, after `m` Low polls. -/
def bitStartEvents (p : Params) (m : Nat) (b : Level) : List Event :=
  List.replicate m (Event.sample .sw .low) ++ [Event.sample .sw .high, .delay p.tBitSampleUs, .sample .sw b]

/-- A bit whose first wait is reached: it is sampled, and the second wait decides whether it is returned. -/
theorem swReadBit_of_start_reached {p : Params} {m : Nat} {b : Level} {rest : List Level} {s : State}
    (hm : m < p.nBitStart) (h : s.answers = List.replicate m .low ++ .high :: b :: rest) :
    ∃ t, Hears (bitStartEvents p m b) rest s t ∧
      (∀ u, spinUntil .sw .low p.nBitEnd t = (.reached, u) → swReadBit p s = (some b, u)) ∧
      (∀ u, spinUntil .sw .low p.nBitEnd t = (.exhausted, u) → swReadBit p s = (none, u)) := by
  obtain ⟨t, hstart, hears⟩ := spinUntil_returns_reached (v := .high) hm h
  obtain ⟨u, hsample, hears'⟩ := sampleLine_delayUs_returns p p.tBitSampleUs hears.answers
  refine ⟨u, by simpa [bitStartEvents, other] using hears.trans hears', fun w hend => ?_, fun w hend => ?_⟩ <;>
    simp [swReadBit, hstart, hsample, hend]

/-- Both waits reached: the sampled bit. -/
theorem swReadBit_returns_bit {p : Params} {m n : Nat} {b : Level} {rest : List Level} {s : State}
    (hm : m < p.nBitStart) (hn : n < p.nBitEnd) (h : s.answers = bitAnswers m n b ++ rest) :
    Returns (some b) (bitEvents p m n b) rest s (swReadBit p s) := by
  obtain ⟨t, hears, hbit, -⟩ := swReadBit_of_start_reached hm (by simpa [bitAnswers] using h)
  obtain ⟨u, hend, hears'⟩ := spinUntil_returns_reached (v := .low) hn hears.answers
  exact ⟨u, hbit u hend, by simpa [bitEvents, bitStartEvents, other] using hears.trans hears'⟩

/-- The first wait exhausted: `Abort`, nothing sampled. -/
theorem swReadBit_returns_abort_at_start {p : Params} {rest : List Level} {s : State}
    (h : s.answers = List.replicate p.nBitStart .low ++ rest) :
    Returns none (List.replicate p.nBitStart (.sample .sw .low)) rest s (swReadBit p s) := by
  obtain ⟨t, hstart, hears⟩ := spinUntil_returns_exhausted (v := .high) h
  exact ⟨t, by simp [swReadBit, hstart], hears⟩

/-- The second wait exhausted: `Abort`, the sampled bit thrown away. -/
theorem swReadBit_returns_abort_at_end {p : Params} {m : Nat} {b : Level} {rest : List Level} {s : State}
    (hm : m < p.nBitStart)
    (h : s.answers = List.replicate m .low ++ [.high, b] ++ List.replicate p.nBitEnd .high ++ rest) :
    Returns none (bitStartEvents p m b ++ List.replicate p.nBitEnd (.sample .sw .high)) rest s (swReadBit p s) := by
  obtain ⟨t, hears, -, habort⟩ := swReadBit_of_start_reached hm (by simpa using h)
  obtain ⟨u, hend, hears'⟩ := spinUntil_returns_exhausted (v := .low) hears.answers
  exact ⟨u, habort u hend, hears.trans hears'⟩

/-- Settles O26: the three ways the two waits of a bit can end. -/
theorem readBitSamplesOrAborts : Obligations.ReadBitSamplesOrAborts := by
  intro p s m n b rest
  refine ⟨fun hm hn h => (swReadBit_returns_bit hm hn h).claims,
    fun h => (swReadBit_returns_abort_at_start h).claims, fun hm h => ?_⟩
  simpa only [bitStartEvents, List.append_assoc] using (swReadBit_returns_abort_at_end hm h).claims

/-! ### One byte (R113) -/

theorem onlyListened_trans {s t u : State} (h : OnlyListened s t) (k : OnlyListened t u) : OnlyListened s u := by
  obtain ⟨hflags, hregs, hpins, hseq, hhost, hdata, hprobe⟩ := h
  obtain ⟨kflags, kregs, kpins, kseq, khost, kdata, kprobe⟩ := k
  exact ⟨kflags.trans hflags, kregs.trans hregs, kpins.trans hpins, kseq.trans hseq, khost.trans hhost,
    kdata.trans hdata, kprobe.trans hprobe⟩

/-- The `k` most significant bits of `b`, the others 0: the byte being assembled after `k` bits. -/
def topBits (b : Byte) (k : Nat) : Byte := (b >>> (8 - k)) <<< (8 - k)

theorem topBits_zero (b : Byte) : topBits b 0 = 0 := by
  ext i hi
  simp [topBits]

theorem topBits_eight (b : Byte) : topBits b 8 = b := by simp [topBits]

theorem getLsbD_levelByte_bitLevel (b : Byte) (i j : Nat) :
    (levelByte (bitLevel b i)).getLsbD j = (decide (j = 0) && b.getLsbD i) := by
  cases h : b.getLsbD i <;> simp [levelByte, bitLevel, h]

/-- Bit `7 - k` of `b` joins the `k` bits above it. -/
theorem topBits_succ (b : Byte) {k : Nat} (hk : k < 8) :
    topBits b k ||| levelByte (bitLevel b (7 - k)) <<< (7 - k) = topBits b (k + 1) := by
  refine BitVec.eq_of_getLsbD_eq fun i hi => ?_
  simp only [topBits, BitVec.getLsbD_or, BitVec.getLsbD_shiftLeft, BitVec.getLsbD_ushiftRight,
    getLsbD_levelByte_bitLevel, hi, decide_true, Bool.true_and]
  obtain hlow | rfl | hhigh := Nat.lt_trichotomy i (7 - k)
  · simp [hlow, show i < 8 - k by omega]
  · simp [show 7 - k < 8 - k by omega]
  · simp [hhigh.not_gt, show ¬ i < 8 - k by omega, show 8 - k + (i - (8 - k)) = i by omega,
      show 7 - k + (i - (7 - k)) = i by omega, show i - (7 - k) ≠ 0 by omega]

theorem leadingBits_succ (b : Byte) (k : Nat) (m n : Nat → Nat) :
    leadingBits b (k + 1) m n = leadingBits b k m n ++ bitAnswers (m k) (n k) (bitLevel b (7 - k)) := by
  simp [leadingBits, List.range_succ]

/-- After `k` clean bits of `b` the loop goes on with the bits that follow, the byte assembled so far their values. -/
theorem swReadBits_after_leadingBits {p : Params} {b : Byte} {m n : Nat → Nat} (h8 : p.byteBits = 8)
    (hreached : ∀ j, j < 8 → m j < p.nBitStart ∧ n j < p.nBitEnd) {k : Nat} (hk : k ≤ 8) (js : List Nat)
    {rest : List Level} {s : State} (hs : s.answers = leadingBits b k m n ++ rest) :
    ∃ t, swReadBits p (List.range k ++ js) (clearV s) = swReadBits p js t ∧ t.hidden.v = topBits b k ∧
      t.answers = rest ∧ OnlyListened s t := by
  induction k generalizing js rest with
  | zero =>
    have honly : OnlyListened s (clearV s) := ⟨rfl, rfl, rfl, rfl, rfl, rfl, rfl⟩
    exact ⟨clearV s, rfl, (topBits_zero b).symm, by simpa [leadingBits] using hs, honly⟩
  | succ k ih =>
    rw [leadingBits_succ, List.append_assoc] at hs
    obtain ⟨t, hloop, hv, hanswers, honly⟩ := ih (by omega) (k :: js) hs
    obtain ⟨hm, hn⟩ := hreached k (by omega)
    obtain ⟨u, hbit, hears⟩ := swReadBit_returns_bit hm hn hanswers
    refine ⟨orBit p (bitLevel b (7 - k)) k u, ?_, ?_, hears.answers,
      onlyListened_trans honly hears.listens.onlyListened⟩
    · simpa [List.range_succ, swReadBits, hbit] using hloop
    · simp [h8, hears.listens.hidden, hv, topBits_succ b (show k < 8 by omega)]

/-- Eight clean bits of `b` give `b`. -/
theorem swReadByte_of_clean {p : Params} {b : Byte} {m n : Nat → Nat} (h8 : p.byteBits = 8)
    (hreached : ∀ j, j < 8 → m j < p.nBitStart ∧ n j < p.nBitEnd) {rest : List Level} {s : State}
    (hs : s.answers = leadingBits b 8 m n ++ rest) :
    (swReadByte p s).1 = b ∧ (swReadByte p s).2.answers = rest ∧ OnlyListened s (swReadByte p s).2 := by
  obtain ⟨t, hloop, hv, hanswers, honly⟩ := swReadBits_after_leadingBits h8 hreached le_rfl [] hs
  have hbyte : swReadByte p s = (t.hidden.v, t) := by
    simp [swReadByte, h8, show swReadBits p (List.range 8) (clearV s) = (true, t) by simpa [swReadBits] using hloop]
  rw [hbyte]
  exact ⟨hv.trans (topBits_eight b), hanswers, honly⟩

/-- The bit numbers of a byte, split at bit `k`. -/
theorem range_eight_split {k : Nat} (hk : k < 8) : ∃ js, List.range 8 = List.range k ++ k :: js := by
  obtain ⟨d, hd⟩ := Nat.exists_eq_add_of_lt hk
  exact ⟨_, by rw [hd, Nat.add_assoc, List.range_add, List.range_succ_eq_map, List.map_cons, Nat.add_zero]⟩

/-- An `Abort` in bit `k` discards the `k` clean bits before it and ends the byte. -/
theorem swReadByte_of_abort {p : Params} {b : Byte} {m n : Nat → Nat} (h8 : p.byteBits = 8)
    (hreached : ∀ j, j < 8 → m j < p.nBitStart ∧ n j < p.nBitEnd) {k : Nat} (hk : k < 8)
    {es : List Event} {tail rest : List Level} {s : State} (hs : s.answers = leadingBits b k m n ++ tail)
    (habort : ∀ t : State, t.answers = tail → Returns none es rest t (swReadBit p t)) :
    (swReadByte p s).1 = 0 ∧ (swReadByte p s).2.answers = rest ∧ OnlyListened s (swReadByte p s).2 := by
  obtain ⟨js, hrange⟩ := range_eight_split hk
  obtain ⟨t, hloop, -, hanswers, honly⟩ := swReadBits_after_leadingBits h8 hreached hk.le (k :: js) hs
  obtain ⟨u, hbit, hears⟩ := habort t hanswers
  have hbyte : swReadByte p s = (0, u) := by
    simp [swReadByte, h8, hrange, hloop, swReadBits, hbit]
  rw [hbyte]
  exact ⟨rfl, hears.answers, onlyListened_trans honly hears.listens.onlyListened⟩

/-- Settles O27: eight clean bits, or a wait of bit `k` exhausted after `k` clean bits. -/
theorem readByteIsMsbFirstOrZero : Obligations.ReadByteIsMsbFirstOrZero := by
  intro p s b m n rest h8 hreached
  refine ⟨fun hs => swReadByte_of_clean h8 hreached hs, fun k hk hs => ?_, fun k x hk hs => ?_⟩
  · rw [List.append_assoc] at hs
    exact swReadByte_of_abort h8 hreached hk hs fun t ht => swReadBit_returns_abort_at_start ht
  · simp only [List.append_assoc] at hs
    exact swReadByte_of_abort h8 hreached hk hs fun t ht =>
      swReadBit_returns_abort_at_end (hreached k hk).1 (by simpa using ht)

end Sys2Proof.Machine
end

section
/-! SUPPORT. Proofs of O28 (R115) and O30 (R116): the checksum, and what `SwValidate` makes of it. -/

namespace Sys2Proof.Machine

open Sys2Proof Sys2Proof.Claims

/-! ### The checksum (R115) -/

theorem checksum_toNat (b0 b1 b2 b3 : Byte) :
    (checksum b0 b1 b2 b3).toNat = (b0.toNat + b1.toNat + b2.toNat + b3.toNat) % 256 := by
  simp [checksum]

/-- Byte addition drops the carries. -/
theorem checksum_eq_add (b0 b1 b2 b3 : Byte) : checksum b0 b1 b2 b3 = b0 + b1 + b2 + b3 := by
  simp [checksum, BitVec.ofNat_add]

/-- Settles O28: each byte is below 256; the corner values are computed. -/
theorem checksumIsTheSumModulo256 : Obligations.ChecksumIsTheSumModulo256 := by
  refine ⟨fun b0 b1 b2 b3 => ⟨by omega, checksum_toNat b0 b1 b2 b3, checksum_eq_add b0 b1 b2 b3⟩, ?_⟩
  decide

/-! ### The acceptance test (R116) -/

theorem frameAccepted_iff_checksum (s : State) :
    frameAccepted s = true ↔
      s.regs.frame4 = checksum s.regs.frame0 s.regs.frame1 s.regs.frame2 s.regs.frame3 := by
  simp [frameAccepted]

theorem frameAccepted_iff_toNat (s : State) :
    frameAccepted s = true ↔ s.regs.frame4.toNat =
      (s.regs.frame0.toNat + s.regs.frame1.toNat + s.regs.frame2.toNat + s.regs.frame3.toNat) % 256 := by
  rw [frameAccepted_iff_checksum, ← BitVec.toNat_inj, checksum_toNat]

theorem swValidate_spec (s : State) : swValidate s =
    if s.regs.frame4.toNat =
        (s.regs.frame0.toNat + s.regs.frame1.toNat + s.regs.frame2.toNat + s.regs.frame3.toNat) % 256 then
      setCkok true (takeReading s)
    else setCkok false s := by
  simp only [← frameAccepted_iff_toNat]
  split
  case isTrue h => exact swValidate_of_accepted h
  case isFalse h => exact swValidate_of_rejected (Bool.eq_false_iff.mpr h)

theorem swValidate_of_zero_frame {s : State} (h : frameOf s = { b0 := 0, b1 := 0, b2 := 0, b3 := 0, b4 := 0 }) :
    (swValidate s).flags.ckok = true ∧ (swValidate s).regs.hum = 0 ∧ (swValidate s).regs.temp = 0 := by
  obtain ⟨h0, h1, h2, h3, h4⟩ := Frame.mk.inj h
  have haccepted : frameAccepted s = true := by
    rw [frameAccepted_iff_checksum, h0, h1, h2, h3, h4]
    decide
  rw [swValidate_of_accepted haccepted]
  exact ⟨rfl, h0, h2⟩

/-! ### Two accepted frames (R116) -/

/-- A frame is its five bytes. -/
theorem Frame.eq_of_byte_eq {f g : Frame} (h : ∀ k, k < 5 → f.byte k = g.byte k) : f = g := by
  obtain ⟨_, _, _, _, _⟩ := f
  obtain ⟨_, _, _, _, _⟩ := g
  exact Frame.mk.injEq .. ▸ ⟨h 0 (by decide), h 1 (by decide), h 2 (by decide), h 3 (by decide), h 4 (by decide)⟩

/-- In an accepted frame any four bytes determine the fifth. -/
theorem byte_eq_of_others_eq {s u : State} (hs : frameAccepted s = true) (hu : frameAccepted u = true) {j : Nat}
    (hj : j < 5) (hothers : ∀ k, k < 5 → j ≠ k → (frameOf u).byte k = (frameOf s).byte k) :
    (frameOf u).byte j = (frameOf s).byte j := by
  rw [frameAccepted_iff_checksum, checksum_eq_add] at hs hu
  simp only [frameOf, Frame.byte, Nat.forall_lt_succ_left] at hothers ⊢
  -- Whichever byte `j` is, the four that agree cancel from the two sums.
  interval_cases j <;> simp_all

/-- Two accepted frames that differ do so in at least two bytes. -/
theorem two_bytes_ne_of_accepted {s u : State} (hs : frameAccepted s = true) (hu : frameAccepted u = true)
    (hne : frameOf u ≠ frameOf s) :
    ∃ j k, j < 5 ∧ k < 5 ∧ j ≠ k ∧ (frameOf u).byte j ≠ (frameOf s).byte j ∧
      (frameOf u).byte k ≠ (frameOf s).byte k := by
  by_contra hnone
  push Not at hnone
  refine hne (Frame.eq_of_byte_eq fun j hj => ?_)
  by_contra hdiff
  exact hdiff (byte_eq_of_others_eq hs hu hj fun k hk hjk => hnone j k hj hk hjk hdiff)

/-- Settles O30: the acceptance test as a relation of numbers, the two outcomes of `SwValidate`, and the distance of
accepted frames. -/
theorem swValidateFollowsTheRelation : Obligations.SwValidateFollowsTheRelation :=
  ⟨swValidate_spec, fun _ => swValidate_of_zero_frame, fun _ _ => two_bytes_ne_of_accepted, by decide, by decide,
    by decide⟩

end Sys2Proof.Machine
end

section
/-! SUPPORT. Decoding a command word laid out field by field (R60, R61): its row of the command table decides. Used by
O40 to O43. -/

namespace Sys2Proof

/-- What the row of its opcode makes of the operand bytes is what a command word decodes to. -/
theorem decode_cmdWord_of_row {op a b : Byte} {i : Instr}
    (h : (cmdRows.find? fun r => r.op == op).map (fun r => r.build a b) = some i) :
    decode (.cmd (cmdWord op a b)) = .ok i := by
  obtain ⟨r, hr, rfl⟩ := Option.map_eq_some_iff.mp h
  simp only [decode, decodeCmd, opField_cmdWord, aField_cmdWord, bField_cmdWord, hr]

end Sys2Proof
end

section
/-! SUPPORT. Proof of O38 (R141): the loop of `WriteByte`, then `WriteByte`, each as one equation of whole states, the
time and the draws left open. -/

namespace Sys2Proof.Machine

open Sys2Proof Sys2Proof.Claims

theorem bitLevel_ushiftRight_one (b : Byte) (i : Nat) : bitLevel (b >>> 1) i = bitLevel b (i + 1) := by
  simp [bitLevel, Nat.add_comm]

@[simp] theorem length_pulseEvents (p : Params) : (pulseEvents p).length = 4 := rfl

/-- The events of the first `n` bits of `v` on their way out (R141). -/
def bitsOutEvents (p : Params) (v : Byte) (n : Nat) : List Event :=
  (List.range n).flatMap fun i => .drive .dat (bitLevel v i) :: pulseEvents p

/-- The wire format lists the turn of the line, then the bits. -/
theorem writeByteEvents_eq_bitsOutEvents (p : Params) (v : Byte) :
    writeByteEvents p v = .mode .dat .output :: bitsOutEvents p v p.byteBits := rfl

/-- Bit 0 goes out first; the bits after it are those of the shifted byte. -/
theorem bitsOutEvents_succ (p : Params) (v : Byte) (n : Nat) :
    bitsOutEvents p v (n + 1) = .drive .dat (bitLevel v 0) :: pulseEvents p ++ bitsOutEvents p (v >>> 1) n := by
  simp [bitsOutEvents, List.range_succ_eq_map, List.flatMap_map, bitLevel_ushiftRight_one]

theorem length_writeByteEvents {p : Params} (h8 : p.byteBits = 8) (v : Byte) : (writeByteEvents p v).length = 41 := by
  simp [writeByteEvents, h8]

/-- The loop of `WriteByte`, run at least once. -/
theorem writeBits_succ_spec (p : Params) (n : Nat) (s : State) :
    ∃ d k, writeBits p (n + 1) s = { s with
      pins := { s.pins with datLatch := bitLevel s.hidden.sh n, clkLatch := .low }
      hidden := { s.hidden with sh := s.hidden.sh >>> (n + 1) }
      trace := s.trace ++ bitsOutEvents p s.hidden.sh (n + 1)
      tick := d
      draws := k } := by
  induction n generalizing s with
  | zero =>
    obtain ⟨d, hbit⟩ := writeBit_spec p s
    exact ⟨d, s.draws + 2, by simp [writeBits, hbit, bitsOutEvents]⟩
  | succ n ih =>
    obtain ⟨_, hbit⟩ := writeBit_spec p s
    obtain ⟨d, k, hrest⟩ := ih (writeBit p s)
    refine ⟨d, k, ?_⟩
    rw [writeBits, hrest, hbit]
    simp [bitsOutEvents_succ p _ (n + 1), bitLevel_ushiftRight_one, ← BitVec.shiftRight_add, Nat.add_comm 1]

/-- `WriteByte`, whole (R141). -/
theorem writeByte_spec {p : Params} (h8 : p.byteBits = 8) (v : Byte) (s : State) :
    ∃ d k, writeByte p v s = { s with
      pins := { s.pins with datMode := .output, datLatch := bitLevel v 7, clkLatch := .low }
      hidden := { s.hidden with sh := 0 }
      trace := s.trace ++ writeByteEvents p v
      tick := d
      draws := k } := by
  obtain ⟨d, k, hloop⟩ := writeBits_succ_spec p 7 (loadSh v (setOutput .dat s))
  have hsh : v >>> 8 = 0 := BitVec.ushiftRight_eq_zero le_rfl
  refine ⟨d, k, ?_⟩
  rw [writeByte, h8, hloop, writeByteEvents_eq_bitsOutEvents, h8]
  simp [loadSh, setOutput, setMode, emit, hsh]

/-- Settles O38: the equation of whole states, read off field by field. -/
theorem writeByteShiftsOutLsbFirst : Obligations.WriteByteShiftsOutLsbFirst := by
  intro p v s h8
  obtain ⟨d, k, h⟩ := writeByte_spec h8 v s
  rw [h]
  exact ⟨rfl, length_writeByteEvents h8 v, rfl, rfl, rfl, rfl, rfl, rfl, rfl, rfl, rfl⟩

end Sys2Proof.Machine
end

section
/-! SUPPORT. Proof of O39 (R142): the levels a run samples against the answers listed, the accumulator as a fold over
these levels, and `ReadByte` as one equation of whole states. -/

namespace Sys2Proof.Machine

open Sys2Proof Sys2Proof.Claims

/-! ### The levels sampled and the answers listed (R181) -/

/-- `Heard vs as as'`: samples that read the levels `vs` take the listed answers `as` to `as'`. A sample reads the next
answer listed; with none left it reads any level (Log 2). -/
inductive Heard : List Level → List Level → List Level → Prop where
  | nothing (as : List Level) : Heard [] as as
  | listed (v : Level) {vs as as' : List Level} (h : Heard vs as as') : Heard (v :: vs) (v :: as) as'
  | free (v : Level) {vs as' : List Level} (h : Heard vs [] as') : Heard (v :: vs) [] as'

/-- While answers are listed, they are what is read. -/
theorem Heard.eq_of_listed {vs ws rest as' : List Level} (h : Heard vs (ws ++ rest) as')
    (hlen : vs.length = ws.length) : vs = ws ∧ as' = rest := by
  induction ws generalizing vs with
  | nil =>
    obtain rfl := List.eq_nil_of_length_eq_zero hlen
    cases h with
    | nothing => exact ⟨rfl, rfl⟩
  | cons w ws ih =>
    cases h with
    | nothing => simp at hlen
    | listed _ h =>
      obtain ⟨rfl, hrest⟩ := ih h (by simpa using hlen)
      exact ⟨rfl, hrest⟩

/-- A sample, then what is heard after it. -/
theorem Heard.after_sampleLine {vs as' : List Level} {l : BiLine} {s : State}
    (h : Heard vs (sampleLine l s).2.answers as') : Heard ((sampleLine l s).1 :: vs) s.answers as' := by
  cases hs : s.answers with
  | nil =>
    rw [sampleLine_free hs] at h ⊢
    exact .free _ (by simpa [hs] using h)
  | cons v rest =>
    rw [sampleLine_listed hs] at h ⊢
    exact .listed v h

/-! ### A byte as eight answers -/

@[simp] theorem length_byteAnswers (r : Byte) : (byteAnswers r).length = 8 := by simp [byteAnswers]

theorem byteAnswers_injective : Function.Injective byteAnswers := by
  intro r x h
  refine BitVec.eq_of_getLsbD_eq fun i hi => ?_
  have hbit : bitLevel r i = bitLevel x i := List.map_inj_left.mp h i (List.mem_range.mpr hi)
  cases hr : r.getLsbD i <;> cases hx : x.getLsbD i <;> simp [bitLevel, hr, hx] at hbit ⊢

/-- A byte heard while the byte `x` is listed is `x`. -/
theorem Heard.eq_of_byte_listed {r x : Byte} {as rest as' : List Level} (h : Heard (byteAnswers r) as as')
    (has : as = byteAnswers x ++ rest) : r = x ∧ as' = rest := by
  subst has
  obtain ⟨hbyte, hrest⟩ := h.eq_of_listed (by simp)
  exact ⟨byteAnswers_injective hbyte, hrest⟩

/-- The accumulator after one more level: shifted, the level at its top (R142). -/
def shiftIn (a : Byte) (v : Level) : Byte := a >>> 1 ||| levelByte v <<< 7

theorem bitLevel_shiftIn_top (a : Byte) (v : Level) : bitLevel (shiftIn a v) 7 = v := by
  cases v <;> simp [bitLevel, shiftIn, levelByte]

theorem bitLevel_shiftIn_below (a : Byte) (v : Level) {i : Nat} (hi : i < 7) :
    bitLevel (shiftIn a v) i = bitLevel a (i + 1) := by
  simp [bitLevel, shiftIn, hi, Nat.add_comm]

/-- The level joins the eight at their end, and the first of them drops out. -/
theorem byteAnswers_shiftIn (a : Byte) (v : Level) : byteAnswers (shiftIn a v) = (byteAnswers a).tail ++ [v] := by
  simp [byteAnswers, List.range_succ, bitLevel_shiftIn_top, bitLevel_shiftIn_below]

/-- The accumulator holds the last eight of the levels it held and took in. -/
theorem byteAnswers_foldl_shiftIn (vs : List Level) (a : Byte) :
    byteAnswers (vs.foldl shiftIn a) = (byteAnswers a ++ vs).drop vs.length := by
  induction vs generalizing a with
  | nil => simp
  | cons v vs ih =>
    have hne : byteAnswers a ≠ [] := List.ne_nil_of_length_pos (by simp)
    calc byteAnswers (vs.foldl shiftIn (shiftIn a v))
        = ((byteAnswers a).tail ++ [v] ++ vs).drop vs.length := by rw [ih, byteAnswers_shiftIn]
      _ = (byteAnswers a ++ v :: vs).tail.drop vs.length := by simp [List.tail_append_of_ne_nil hne]
      _ = (byteAnswers a ++ v :: vs).drop (vs.length + 1) := List.drop_tail

/-! ### A byte as the sum of its bits -/

/-- The `n` least significant bits of `r`, the others 0. -/
def lowBits (r : Byte) (n : Nat) : Byte := BitVec.ofNat 8 (r.toNat % 2 ^ n)

theorem lowBits_zero (r : Byte) : lowBits r 0 = 0 := by simp [lowBits, Nat.mod_one]

theorem lowBits_eight (r : Byte) : lowBits r 8 = r := by
  simp [lowBits, Nat.mod_eq_of_lt r.isLt]

theorem levelByte_bitLevel (r : Byte) (n : Nat) :
    levelByte (bitLevel r n) = BitVec.ofNat 8 (r.toNat / 2 ^ n % 2) := by
  obtain h | h := Nat.mod_two_eq_zero_or_one (r.toNat / 2 ^ n) <;>
    simp [levelByte, bitLevel, BitVec.getLsbD, Nat.testBit_eq_decide_div_mod_eq, h]

theorem lowBits_succ (r : Byte) (n : Nat) : lowBits r (n + 1) = lowBits r n + levelByte (bitLevel r n) <<< n := by
  apply BitVec.eq_of_toNat_eq
  simp [lowBits, levelByte_bitLevel, Nat.mod_pow_succ, Nat.shiftLeft_eq, Nat.mul_comm]

theorem eq_sum_of_bits (r : Byte) :
    r = levelByte (bitLevel r 0) + levelByte (bitLevel r 1) <<< 1 + levelByte (bitLevel r 2) <<< 2 +
      levelByte (bitLevel r 3) <<< 3 + levelByte (bitLevel r 4) <<< 4 + levelByte (bitLevel r 5) <<< 5 +
      levelByte (bitLevel r 6) <<< 6 + levelByte (bitLevel r 7) <<< 7 :=
  calc r = lowBits r 8 := (lowBits_eight r).symm
    _ = _ := by simp only [lowBits_succ, lowBits_zero, zero_add, BitVec.shiftLeft_zero]

/-! ### Reading a byte (R142) -/

/-- The events of sampling the levels `vs`, each before its pulse (R142). -/
def bitsInEvents (p : Params) (vs : List Level) : List Event :=
  vs.flatMap fun v => .sample .dat v :: pulseEvents p

/-- The wire format lists the turn of the line, then the samples of the byte's bits. -/
theorem readByteEvents_eq_bitsInEvents {p : Params} (h8 : p.byteBits = 8) (r : Byte) :
    readByteEvents p r = .mode .dat .input :: bitsInEvents p (byteAnswers r) := by
  simp [readByteEvents, bitsInEvents, byteAnswers, h8, List.flatMap_map]

theorem length_readByteEvents {p : Params} (h8 : p.byteBits = 8) (r : Byte) : (readByteEvents p r).length = 41 := by
  simp [readByteEvents, h8]

/-- The loop of `ReadByte`, run at least once. -/
theorem readBits_succ_spec {p : Params} (h8 : p.byteBits = 8) (n : Nat) (s : State) :
    ∃ vs as d k, vs.length = n + 1 ∧ Heard vs s.answers as ∧ readBits p (n + 1) s = { s with
      pins := { s.pins with clkLatch := .low }
      hidden := { s.hidden with acc := vs.foldl shiftIn s.hidden.acc }
      trace := s.trace ++ bitsInEvents p vs
      answers := as
      tick := d
      draws := k } := by
  induction n generalizing s with
  | zero =>
    obtain ⟨d, hbit⟩ := readBit_spec p s
    exact ⟨[(sampleLine .dat s).1], (sampleLine .dat s).2.answers, d, (sampleLine .dat s).2.draws + 2, rfl,
      (Heard.nothing _).after_sampleLine, by simp [readBits, hbit, shiftIn, bitsInEvents, h8]⟩
  | succ n ih =>
    obtain ⟨_, hbit⟩ := readBit_spec p s
    obtain ⟨vs, as, d, k, hlen, hheard, hrest⟩ := ih (readBit p s)
    rw [hbit] at hheard
    refine ⟨(sampleLine .dat s).1 :: vs, as, d, k, by simp [hlen], hheard.after_sampleLine, ?_⟩
    rw [readBits, hrest, hbit]
    simp [shiftIn, bitsInEvents, h8]

/-- `ReadByte`, whole (R142): the byte heard is left in `acc`. -/
theorem readByte_spec {p : Params} (h8 : p.byteBits = 8) (s : State) :
    ∃ r as d k, Heard (byteAnswers r) s.answers as ∧ readByte p s = { s with
      pins := { s.pins with datMode := .input, clkLatch := .low }
      hidden := { s.hidden with acc := r }
      trace := s.trace ++ readByteEvents p r
      answers := as
      tick := d
      draws := k } := by
  obtain ⟨vs, as, d, k, hlen, hheard, hloop⟩ := readBits_succ_spec h8 7 (clearAcc (setInput .dat s))
  have hbyte : byteAnswers (vs.foldl shiftIn 0) = vs := by
    rw [byteAnswers_foldl_shiftIn, hlen, List.drop_left' (length_byteAnswers 0)]
  refine ⟨vs.foldl shiftIn 0, as, d, k, hbyte.symm ▸ hheard, ?_⟩
  rw [readByte, h8, hloop, readByteEvents_eq_bitsInEvents h8, hbyte]
  simp [clearAcc, setInput, setMode, emit]

/-- Settles O39: with eight answers listed they are the byte's bits, and a byte is the sum of its bits. -/
theorem readByteAssemblesLsbFirst : Obligations.ReadByteAssemblesLsbFirst := by
  intro p s h8
  obtain ⟨r, as, d, k, hheard, h⟩ := readByte_spec h8 s
  rw [h]
  refine ⟨rfl, length_readByteEvents h8 r, fun a0 a1 a2 a3 a4 a5 a6 a7 rest hs => ?_, rfl, rfl, rfl, rfl, rfl, rfl,
    rfl, rfl⟩
  rw [hs] at hheard
  obtain ⟨hbits, hrest⟩ := hheard.eq_of_listed (length_byteAnswers r)
  obtain ⟨rfl, rfl, rfl, rfl, rfl, rfl, rfl, rfl⟩ : bitLevel r 0 = a0 ∧ bitLevel r 1 = a1 ∧ bitLevel r 2 = a2 ∧
      bitLevel r 3 = a3 ∧ bitLevel r 4 = a4 ∧ bitLevel r 5 = a5 ∧ bitLevel r 6 = a6 ∧ bitLevel r 7 = a7 := by
    simpa [byteAnswers, List.range_succ] using hbits
  exact ⟨eq_sum_of_bits r, hrest⟩

end Sys2Proof.Machine
end

section
/-! SUPPORT. Proofs of O40 and O41 (R145 to R148): the two register transactions, each as one equation of whole states,
and the two commands that make one transaction. -/

namespace Sys2Proof.Machine

open Sys2Proof Sys2Proof.Claims

/-- `BYTE_BITS` of the machine itself (R6). -/
theorem params_byteBits : Config.params.byteBits = 8 := rfl

theorem length_writeRegisterEvents {p : Params} (h8 : p.byteBits = 8) (a v : Byte) :
    (writeRegisterEvents p a v).length = 85 := by
  simp [writeRegisterEvents, length_writeByteEvents h8]

theorem length_readRegisterEvents {p : Params} (h8 : p.byteBits = 8) (a r : Byte) :
    (readRegisterEvents p a r).length = 85 := by
  simp [readRegisterEvents, length_writeByteEvents h8, length_readByteEvents h8]

theorem beginTransaction_spec (s : State) : beginTransaction s = { s with
    pins := { s.pins with clkLatch := .low, ceLatch := .high }
    trace := s.trace ++ [.drive .clk .low, .drive .ce .high] } := by
  simp [beginTransaction, driveLine, setLatch, emit]

/-- `WriteRegister`, whole (R145). -/
theorem writeRegister_spec {p : Params} (h8 : p.byteBits = 8) (a v : Byte) (s : State) :
    ∃ d k, writeRegister p a v s = { s with
      pins := restedPins .output (bitLevel v 7) s
      hidden := { s.hidden with sh := 0 }
      trace := s.trace ++ writeRegisterEvents p a v
      tick := d
      draws := k } := by
  obtain ⟨_, _, haddress⟩ := writeByte_spec h8 a (beginTransaction s)
  obtain ⟨d, k, hdata⟩ := writeByte_spec h8 v (writeByte p a (beginTransaction s))
  refine ⟨d, k, ?_⟩
  rw [writeRegister, hdata, haddress, beginTransaction_spec]
  simp [endTransaction, driveLine, setLatch, emit, restedPins, writeRegisterEvents]

/-- `ReadRegister`, whole (R146): the byte heard is left in `acc`, and `DAT` keeps the latch the address byte left. -/
theorem readRegister_spec {p : Params} (h8 : p.byteBits = 8) (a : Byte) (s : State) :
    ∃ r as d k, Heard (byteAnswers r) s.answers as ∧ readRegister p a s = { s with
      pins := restedPins .input (bitLevel a 7) s
      hidden := { s.hidden with sh := 0, acc := r }
      trace := s.trace ++ readRegisterEvents p a r
      answers := as
      tick := d
      draws := k } := by
  obtain ⟨_, _, haddress⟩ := writeByte_spec h8 a (beginTransaction s)
  obtain ⟨r, as, d, k, hheard, hdata⟩ := readByte_spec h8 (writeByte p a (beginTransaction s))
  refine ⟨r, as, d, k, ?_, ?_⟩
  · rwa [haddress, beginTransaction_spec] at hheard
  · rw [readRegister, hdata, haddress, beginTransaction_spec]
    simp [endTransaction, driveLine, setLatch, emit, restedPins, readRegisterEvents]

/-- Settles O40: one write transaction between the acceptance of the command and the fall of `BUSY`. -/
theorem wrregSendsOneWriteTransaction : Obligations.WrregSendsOneWriteTransaction := by
  refine ⟨fun a b => decode_cmdWord_of_row rfl, fun a b s => ?_⟩
  obtain ⟨d, k, h⟩ := writeRegister_spec params_byteBits a b (beginCommand s)
  refine ⟨endCommand (writeRegister Config.params a b (beginCommand s)), rfl, ?_⟩
  rw [h]
  exact ⟨rfl, length_writeRegisterEvents params_byteBits a b, rfl, rfl, rfl, rfl, rfl, rfl, rfl, rfl, rfl⟩

/-- Settles O41: one read transaction, then `acc` copied to `RDATA`. -/
theorem rdregStoresTheByteItSampled : Obligations.RdregStoresTheByteItSampled := by
  refine ⟨fun a b => decode_cmdWord_of_row rfl, fun a s => ?_⟩
  obtain ⟨r, as, d, k, hheard, h⟩ := readRegister_spec params_byteBits a (beginCommand s)
  refine ⟨endCommand (storeRdata (readRegister Config.params a (beginCommand s))), rfl, ?_⟩
  rw [h]
  exact ⟨rfl, length_readRegisterEvents params_byteBits a r, fun _ _ hs => hheard.eq_of_byte_listed hs, rfl, rfl, rfl,
    rfl, rfl, rfl, rfl, rfl⟩

end Sys2Proof.Machine
end

section
/-! SUPPORT. Proof of O42 (R149): a list of write transactions by its last one, and the list `RTC.INIT` makes. -/

namespace Sys2Proof.Machine

open Sys2Proof Sys2Proof.Claims

theorem writeAll_cons (p : Params) (w : Byte × Byte) (ws : List (Byte × Byte)) (s : State) :
    writeAll p (w :: ws) s = writeAll p ws (writeRegister p w.1 w.2 s) := rfl

/-- Write transactions one after the other, the last of `v` to `a`. -/
theorem writeAll_concat_spec {p : Params} (h8 : p.byteBits = 8) (ws : List (Byte × Byte)) (a v : Byte) (s : State) :
    ∃ d k, writeAll p (ws ++ [(a, v)]) s = { s with
      pins := restedPins .output (bitLevel v 7) s
      hidden := { s.hidden with sh := 0 }
      trace := s.trace ++ (ws ++ [(a, v)]).flatMap fun w => writeRegisterEvents p w.1 w.2
      tick := d
      draws := k } := by
  induction ws generalizing s with
  | nil =>
    obtain ⟨d, k, hlast⟩ := writeRegister_spec h8 a v s
    exact ⟨d, k, by simp [writeAll, hlast]⟩
  | cons w ws ih =>
    obtain ⟨_, _, hfirst⟩ := writeRegister_spec h8 w.1 w.2 s
    obtain ⟨d, k, hrest⟩ := ih (writeRegister p w.1 w.2 s)
    refine ⟨d, k, ?_⟩
    rw [List.cons_append, writeAll_cons, hrest, hfirst]
    simp [restedPins]

/-- The addresses of the model's list, computed, are those written out from the rule. -/
theorem initWrites_eq_initPairs (p : Params) : initWrites p = initPairs p := by
  cases h : p.seedEnable <;> simp only [initWrites, initPairs, h] <;> rfl

/-- The transactions of `RTC.INIT`, whole: the lock is the last (R149). -/
theorem writeAll_initWrites_spec {p : Params} (h8 : p.byteBits = 8) (s : State) :
    ∃ d k, writeAll p (initWrites p) s = { s with
      pins := restedPins .output (bitLevel p.wpLock 7) s
      hidden := { s.hidden with sh := 0 }
      trace := s.trace ++ (initPairs p).flatMap fun w => writeRegisterEvents p w.1 w.2
      tick := d
      draws := k } := by
  rw [← initWrites_eq_initPairs]
  exact writeAll_concat_spec h8
    ((ClockField.wp.writeAddr, p.wpUnlock) :: if p.seedEnable then seedWrites p else []) _ _ s

/-- Settles O42: the list of write transactions between the acceptance of the command and the fall of `BUSY`. -/
theorem initWritesUnlockSeedsLock : Obligations.InitWritesUnlockSeedsLock := by
  refine ⟨fun a b => decode_cmdWord_of_row rfl, fun s => ?_⟩
  obtain ⟨d, k, h⟩ := writeAll_initWrites_spec params_byteBits (beginCommand s)
  refine ⟨endCommand (writeAll Config.params (initWrites Config.params) (beginCommand s)), rfl, ?_⟩
  rw [h]
  exact ⟨rfl, rfl, rfl, rfl, rfl, rfl, rfl, rfl, rfl, rfl⟩

end Sys2Proof.Machine
end

section
/-! SUPPORT. Proof of O43 (R150): what reading one field does, and six fields in a row. -/

namespace Sys2Proof.Machine

open Sys2Proof Sys2Proof.Claims

theorem hostKept_trans {s t u : State} (h : HostKept s t) (k : HostKept t u) : HostKept s u := by
  obtain ⟨hhost, hdata, hprobe⟩ := h
  obtain ⟨khost, kdata, kprobe⟩ := k
  exact ⟨khost.trans hhost, kdata.trans hdata, kprobe.trans hprobe⟩

/-- Reading the field `f` takes `s` to `t`, the byte heard being `r`. -/
structure ReadsField (p : Params) (f : TimeField) (r : Byte) (s t : State) : Prop where
  trace : t.trace = s.trace ++ readRegisterEvents p f.clockField.readAddr r
  regs : t.regs = (setTime f (bcdDec r) s).regs
  answers : ∀ x rest, s.answers = byteAnswers x ++ rest → r = x ∧ t.answers = rest
  pins : t.pins = restedPins .input .high s
  hidden : t.hidden = { s.hidden with sh := 0, acc := r }
  flags : t.flags = s.flags
  hostKept : HostKept s t

/-- Every read address has its top bit set (R70). -/
theorem bitLevel_readAddr_top (f : TimeField) : bitLevel f.clockField.readAddr 7 = .high := by cases f <;> rfl

theorem setTime_regs_congr (f : TimeField) (b : Byte) {s t : State} (h : t.regs = s.regs) :
    (setTime f b t).regs = (setTime f b s).regs := by
  cases f <;> simp [h]

theorem readField_readsField {p : Params} (h8 : p.byteBits = 8) (f : TimeField) (s : State) :
    ∃ r t, readField p s f = t ∧ ReadsField p f r s t := by
  obtain ⟨r, as, d, k, hheard, h⟩ := readRegister_spec h8 f.clockField.readAddr s
  refine ⟨r, readField p s f, rfl, ?_⟩
  rw [readField, h]
  constructor
  case answers => simpa [storeTime] using fun x rest => hheard.eq_of_byte_listed (x := x) (rest := rest)
  case regs => exact setTime_regs_congr f _ rfl
  case trace | pins | hidden | flags | hostKept => simp [storeTime, bitLevel_readAddr_top, restedPins, HostKept]

/-- Settles O43: six fields in a row, each read from the state the one before it left. -/
theorem gettimeReadsAndDecodesSixFields : Obligations.GettimeReadsAndDecodesSixFields := by
  refine ⟨fun a b => decode_cmdWord_of_row rfl, fun s => ?_⟩
  obtain ⟨r0, t0, e0, h0⟩ := readField_readsField params_byteBits .sec (beginCommand s)
  obtain ⟨r1, t1, e1, h1⟩ := readField_readsField params_byteBits .min t0
  obtain ⟨r2, t2, e2, h2⟩ := readField_readsField params_byteBits .hour t1
  obtain ⟨r3, t3, e3, h3⟩ := readField_readsField params_byteBits .date t2
  obtain ⟨r4, t4, e4, h4⟩ := readField_readsField params_byteBits .month t3
  obtain ⟨r5, t5, e5, h5⟩ := readField_readsField params_byteBits .year t4
  have hbody : getTimeBody Config.params (beginCommand s) = t5 := by
    simp only [getTimeBody, timeFields, List.foldl_cons, List.foldl_nil, e0, e1, e2, e3, e4, e5]
  refine ⟨endCommand t5, r0, r1, r2, r3, r4, r5, hbody ▸ rfl, ?trace, ?regs, ?answers, ?pins, ?flags, ?hidden, rfl,
    ?hostKept⟩
  case trace =>
    rw [endCommand_trace, h5.trace, h4.trace, h3.trace, h2.trace, h1.trace, h0.trace]
    rfl
  case regs => simp [h5.regs, h4.regs, h3.regs, h2.regs, h1.regs, h0.regs]
  case answers =>
    intro x0 x1 x2 x3 x4 x5 rest hs
    simp only [List.append_assoc] at hs
    obtain ⟨rfl, hs0⟩ := h0.answers _ _ hs
    obtain ⟨rfl, hs1⟩ := h1.answers _ _ hs0
    obtain ⟨rfl, hs2⟩ := h2.answers _ _ hs1
    obtain ⟨rfl, hs3⟩ := h3.answers _ _ hs2
    obtain ⟨rfl, hs4⟩ := h4.answers _ _ hs3
    obtain ⟨rfl, hs5⟩ := h5.answers _ _ hs4
    exact ⟨rfl, hs5⟩
  case pins => simp [h5.pins, h4.pins, h3.pins, h2.pins, h1.pins, h0.pins, restedPins]
  case flags => simp [h5.flags, h4.flags, h3.flags, h2.flags, h1.flags, h0.flags, doneFlags]
  case hidden => simp [h5.hidden, h4.hidden, h3.hidden, h2.hidden, h1.hidden, h0.hidden]
  case hostKept =>
    have hfirst : HostKept s t2 := hostKept_trans (hostKept_trans h0.hostKept h1.hostKept) h2.hostKept
    have hlast : HostKept t2 t5 := hostKept_trans (hostKept_trans h3.hostKept h4.hostKept) h5.hostKept
    exact hostKept_trans hfirst hlast

end Sys2Proof.Machine
end

section
/-! SUPPORT. Proofs of O50 (R170) and O52 (R173): `BcdDec` as a relation of numbers, and `BCD.DEC` as one equation of
whole states. -/

namespace Sys2Proof.Machine

open Sys2Proof Sys2Proof.Claims

/-! ### The decoder (R170) -/

/-- A nibble is at most 15, so the decoded number fits its byte: nothing wraps. -/
theorem bcdDec_toNat (v : Byte) : (bcdDec v).toNat = v.toNat / 16 * 10 + v.toNat % 16 := by
  have hfits : v.toNat / 16 * 10 + v.toNat % 16 < 2 ^ 8 := by omega
  rw [bcdDec, BitVec.toNat_ofNat, Nat.mod_eq_of_lt hfits]

theorem bcdDec_toNat_le (v : Byte) : (bcdDec v).toNat ≤ 165 := by
  rw [bcdDec_toNat]
  omega

theorem validBcd_iff (v : Byte) : validBcd v = true ↔ v.toNat / 16 ≤ 9 ∧ v.toNat % 16 ≤ 9 := by
  simp [validBcd]

theorem bcdDec_toNat_le_of_validBcd {v : Byte} (h : validBcd v = true) : (bcdDec v).toNat ≤ 99 := by
  obtain ⟨htens, hones⟩ := (validBcd_iff v).mp h
  rw [bcdDec_toNat]
  omega

/-- On valid bytes the decimal digits of the result are the nibbles, so the result determines the byte. -/
theorem bcdDec_inj_of_validBcd {v w : Byte} (hv : validBcd v = true) (hw : validBcd w = true)
    (h : bcdDec v = bcdDec w) : v = w := by
  obtain ⟨_, hvOnes⟩ := (validBcd_iff v).mp hv
  obtain ⟨_, hwOnes⟩ := (validBcd_iff w).mp hw
  rw [← BitVec.toNat_inj, bcdDec_toNat, bcdDec_toNat] at h
  have htens : v.toNat / 16 = w.toNat / 16 := by omega
  have hones : v.toNat % 16 = w.toNat % 16 := by omega
  apply BitVec.eq_of_toNat_eq
  rw [← Nat.div_add_mod v.toNat 16, ← Nat.div_add_mod w.toNat 16, htens, hones]

/-- Settles O50: the formula and its two bounds, injectivity on the valid bytes, and the rule's values, computed. -/
theorem bcdDecodeIsTheFormula : Obligations.BcdDecodeIsTheFormula :=
  ⟨fun v => ⟨bcdDec_toNat v, bcdDec_toNat_le v⟩, fun _ => bcdDec_toNat_le_of_validBcd,
    fun _ _ => bcdDec_inj_of_validBcd, by decide⟩

/-! ### The command (R173) -/

/-- `BCD.DEC`, whole: the decoded byte in `RDATA`, between the acceptance of the command and the fall of `BUSY`. -/
theorem exec_bcdDec_spec (b : Byte) (s : State) : exec (.bcdDec b) s = .next { s with
    regs := { s.regs with rdata := bcdDec b }
    flags := doneFlags s
    seq := Seq.idle } := rfl

/-- Settles O52: the equation of whole states, read off field by field. -/
theorem bcdDecWritesRdataOnly : Obligations.BcdDecWritesRdataOnly := fun _ b s =>
  ⟨decode_cmdWord_of_row rfl, _, exec_bcdDec_spec b s, rfl, rfl, rfl, rfl, rfl, rfl, rfl, rfl, rfl, rfl⟩

end Sys2Proof.Machine
end

section
/-! SUPPORT. Proof of O9 (R215): a command word that comes while `BUSY = 1` is dropped. -/

namespace Sys2Proof.Machine

open Sys2Proof Sys2Proof.Claims

/-- Settles O9: an issued word and a bare write to `CMD` both test `BUSY` before they look at the word, so only the
host's action is consumed. -/
theorem busyEngineDropsEveryWord : Obligations.BusyEngineDropsEveryWord :=
  fun _ _ _ hbusy hnext => step_cmdWord_of_busy hnext.symm hbusy

end Sys2Proof.Machine
end

section
/-! SUPPORT. Proofs of O1, O2, O3, O4 and O5 (R60 to R63, R68 to R70, R75): a word laid out from a row of either table
decodes to what the row builds, and a canonical word is laid out from a row. -/

namespace Sys2Proof

open Sys2Proof.Claims

/-- A byte that no row lists is rejected by name. -/
theorem decode_bus_of_unlisted {a : Byte} (ha : ∀ r ∈ addrRows, r.address ≠ a) (d : Byte) :
    decode (.bus a d) = .error (.unnamedAddress a) := by
  have hnone : addrRows.find? (fun r => r.address == a) = none :=
    List.find?_eq_none.mpr fun r hr h => ha r hr (beq_iff_eq.mp h)
  simp only [decode, decodeBus, hnone]

/-- Settles O1: a command's word is laid out from its row of the command table; an address byte is a row's own. -/
theorem decodeOfEncodeIsIdentity : Obligations.DecodeOfEncodeIsIdentity := by
  intro i _
  cases i with
  | swRead | rtcWrreg a b | rtcRdreg a | rtcInit | rtcGettime | bcdDec b => exact decode_cmdWord_of_row rfl
  | aSecW v | aMinW v | aHourW v | aDateW v | aMonthW v | aF7W v | aYearW v | aWpW v => rfl
  | aSecR | aMinR | aHourR | aDateR | aMonthR | aF7R | aYearR | aWpR => rfl

/-! ### Canonical words (R61, R75) -/

/-- A command word is its three fields. -/
theorem cmdWord_fields (w : Word24) : cmdWord (opField w) (aField w) (bField w) = w := by
  refine BitVec.eq_of_getLsbD_eq fun i hi => ?_
  simp only [cmdWord, opField, aField, bField, BitVec.getLsbD_append, BitVec.getLsbD_extractLsb']
  by_cases hb : i < 8
  · simp [hb]
  · by_cases ha : i - 8 < 8
    · simp [hb, ha, show 8 + (i - 8) = i by omega]
    · simp [hb, ha, show i - 8 - 8 < 8 by omega, show 16 + (i - 8 - 8) = i by omega]

theorem encode_wf (i : Instr) : (encode i).wf = true := by
  cases i with
  | swRead => exact Laws.CanonicalWord.swRead
  | rtcWrreg a b => exact Laws.CanonicalWord.rtcWrreg a b
  | rtcRdreg a => exact Laws.CanonicalWord.rtcRdreg a
  | rtcInit => exact Laws.CanonicalWord.rtcInit
  | rtcGettime => exact Laws.CanonicalWord.rtcGettime
  | bcdDec b => exact Laws.CanonicalWord.bcdDec b
  | aSecW v => exact Laws.CanonicalWord.aSecW v
  | aSecR => exact Laws.CanonicalWord.aSecR
  | aMinW v => exact Laws.CanonicalWord.aMinW v
  | aMinR => exact Laws.CanonicalWord.aMinR
  | aHourW v => exact Laws.CanonicalWord.aHourW v
  | aHourR => exact Laws.CanonicalWord.aHourR
  | aDateW v => exact Laws.CanonicalWord.aDateW v
  | aDateR => exact Laws.CanonicalWord.aDateR
  | aMonthW v => exact Laws.CanonicalWord.aMonthW v
  | aMonthR => exact Laws.CanonicalWord.aMonthR
  | aF7W v => exact Laws.CanonicalWord.aF7W v
  | aF7R => exact Laws.CanonicalWord.aF7R
  | aYearW v => exact Laws.CanonicalWord.aYearW v
  | aYearR => exact Laws.CanonicalWord.aYearR
  | aWpW v => exact Laws.CanonicalWord.aWpW v
  | aWpR => exact Laws.CanonicalWord.aWpR

/-- What a canonical command word has in its fields, row by row of R61. -/
theorem fields_of_cmd_wf {w : Word24} (h : (Code.cmd w).wf = true) :
    (opField w = 0x01 ∨ opField w = 0x12 ∨ opField w = 0x13) ∧ aField w = 0 ∧ bField w = 0 ∨
      opField w = 0x10 ∨ opField w = 0x11 ∧ bField w = 0 ∨ opField w = 0x20 ∧ aField w = 0 := by
  simpa [Code.wf, Code.opNoOperand, opField, aField, bField, or_assoc, and_assoc] using h

theorem exists_encode_eq_of_cmd_wf {w : Word24} (h : (Code.cmd w).wf = true) : ∃ i, encode i = .cmd w := by
  rw [← cmdWord_fields w]
  obtain ⟨hop | hop | hop, ha, hb⟩ | hop | ⟨hop, hb⟩ | ⟨hop, ha⟩ := fields_of_cmd_wf h
  · exact ⟨.swRead, by rw [hop, ha, hb]; rfl⟩
  · exact ⟨.rtcInit, by rw [hop, ha, hb]; rfl⟩
  · exact ⟨.rtcGettime, by rw [hop, ha, hb]; rfl⟩
  · exact ⟨.rtcWrreg (aField w) (bField w), by rw [hop]; rfl⟩
  · exact ⟨.rtcRdreg (aField w), by rw [hop, hb]; rfl⟩
  · exact ⟨.bcdDec (bField w), by rw [hop, ha]; rfl⟩

/-- A row's byte, a read address followed by 0, is what the encoder writes for what the row builds. -/
theorem encode_build_of_row : ∀ r ∈ addrRows, ∀ d : Byte, r.address.getLsbD 0 = false ∨ d = 0 →
    encode (r.build d) = .bus r.address d := by
  simp [addrRows, encode]

/-- The bytes with high nibble 8 are the sixteen of the table (R70). -/
theorem exists_row_of_high_nibble : ∀ a : Byte, a.extractLsb' 4 4 = 8#4 → ∃ r ∈ addrRows, r.address = a := by
  have hlisted : ∀ a : Byte, a.extractLsb' 4 4 = 8#4 → a ∈ addrRows.map AddrRow.address := by decide
  exact fun a ha => List.mem_map.mp (hlisted a ha)

theorem exists_encode_eq_of_bus_wf {a d : Byte} (h : (Code.bus a d).wf = true) : ∃ i, encode i = .bus a d := by
  obtain ⟨hnibble, hdata⟩ : a.extractLsb' 4 4 = 8#4 ∧ (a.getLsbD 0 = false ∨ d = 0) := by
    simpa [Code.wf] using h
  obtain ⟨r, hr, rfl⟩ := exists_row_of_high_nibble a hnibble
  exact ⟨r.build d, encode_build_of_row r hr d hdata⟩

/-- Settles O2: a canonical word is laid out from its row, and what the encoder writes is canonical. -/
theorem canonicalWordsAreTheEncoders : Obligations.CanonicalWordsAreTheEncoders := by
  intro c
  constructor
  · intro hwf
    obtain ⟨i, rfl⟩ : ∃ i, encode i = c := by
      cases c with
      | cmd w => exact exists_encode_eq_of_cmd_wf hwf
      | bus a d => exact exists_encode_eq_of_bus_wf hwf
    exact ⟨i, decodeOfEncodeIsIdentity i (by cases i <;> rfl), rfl⟩
  · rintro ⟨i, -, rfl⟩
    exact encode_wf i

/-! ### The two tables (R61, R70) -/

/-- Settles O3: a listed opcode is its row's, any other has no row. -/
theorem decoderFollowsTheOpcodeTable : Obligations.DecoderFollowsTheOpcodeTable := by
  intro op a b
  split_ifs with h1 h2 h3 h4 h5 h6
  case neg =>
    have hop : opField (cmdWord op a b) ∉ legalOps := by
      simp only [opField_cmdWord, legalOps, List.mem_cons, List.not_mem_nil, or_false, not_or]
      exact ⟨h1, h2, h3, h4, h5, h6⟩
    exact (decodeCmd_of_illegal hop).trans (by rw [opField_cmdWord])
  all_goals
    subst op
    exact decode_cmdWord_of_row rfl

theorem addrRow_address_range : ∀ r ∈ addrRows, 0x80 ≤ r.address.toNat ∧ r.address.toNat ≤ 0x8F := by
  simp [addrRows]

/-- Settles O4: each row decodes to its own instruction; the rows' bytes lie from 0x80 to 0x8F. -/
theorem addressBytesDecodeByTheirTable : Obligations.AddressBytesDecodeByTheirTable := by
  refine ⟨fun v => ⟨?writeRows, ?readRows⟩, fun a v ha => ?_, fun _ => rfl⟩
  case writeRows => simp [writeRows, decode, decodeBus, addrRows]
  case readRows => simp [readRows, decode, decodeBus, addrRows]
  refine decode_bus_of_unlisted (fun r hr heq => ?_) v
  have hrange := addrRow_address_range r hr
  rw [heq] at hrange
  omega

/-- Settles O5: the words of the spec, decoded. -/
theorem specExampleWordsDecode : Obligations.SpecExampleWordsDecode :=
  ⟨rfl, rfl, rfl, rfl, rfl, rfl, rfl, rfl, rfl, rfl⟩

end Sys2Proof
end

section
/-! SUPPORT. Proofs of O6, O10 and O15 (R18, R22, R75, R230), and the first half of O7: what a step makes of a word or a
transaction that decodes, and of reset. -/

namespace Sys2Proof.Machine

open Sys2Proof Sys2Proof.Claims

/-! ### A step that runs an instruction -/

/-- An issued word that decodes, taken while idle, runs (R75). -/
theorem step_issue_of_decoded {s : State} {w : Word24} {rest : List HostAct} {i : Instr}
    (hnext : HostNext s (.issue w) rest) (hidle : s.flags.busy = false) (hd : decode (.cmd w) = .ok i) :
    step s = exec i { s with host := rest } := by
  rw [step_of_hostNext hnext]
  simp [hostStep, takeCommand, hidle, hd, carryOut]

/-- A transaction laid in that decodes, taken while idle, runs (Log 10). -/
theorem step_probe_of_decoded {s : State} {a d : Byte} {i : Instr} (hprobe : s.probe = some (a, d))
    (hidle : s.flags.busy = false) (hd : decode (.bus a d) = .ok i) : step s = exec i { s with probe := none } := by
  simp [step, stepWith, hprobe, takeProbe, hidle, hd, carryOut]

theorem decodeTableWord_eq_some_iff {nbits w : Nat} {i : Instr} :
    decodeTableWord nbits w = some i ↔ decode (tableCode nbits w) = .ok i := by
  unfold decodeTableWord
  split <;> simp [*]

/-- Laying a code word in front of an idle engine changes the host's list or the transaction laid in, nothing else. -/
theorem placeCode_of_idle (c : Code) {s : State} (hidle : s.flags.busy = false) (hseq : s.seq = Seq.idle)
    (hprobe : s.probe = none) : placeCode c s =
      match c with
      | .cmd w => { s with host := .issue w :: s.host }
      | .bus a d => { s with probe := some (a, d) } := by
  obtain ⟨⟨busy, ckok, ill⟩, _, _, _, _, _, _, _, _, _, _, _⟩ := s
  cases c <;> simp_all [placeCode]

theorem step_placeCode_of_decoded {c : Code} {s : State} {i : Instr} (hidle : s.flags.busy = false)
    (hseq : s.seq = Seq.idle) (hprobe : s.probe = none) (hd : decode c = .ok i) : step (placeCode c s) = exec i s := by
  rw [placeCode_of_idle c hidle hseq hprobe]
  cases c with
  | cmd w => exact step_issue_of_decoded ⟨hprobe, rfl⟩ hidle hd
  | bus a d =>
    have hnone : { s with probe := none } = s := by rw [← hprobe]
    refine (step_probe_of_decoded (s := { s with probe := some (a, d) }) rfl hidle hd).trans ?_
    exact congrArg (exec i) hnone

/-- Settles O6: the three ways an instruction comes to run. -/
theorem stepRunsTheDecodedInstruction : Obligations.StepRunsTheDecodedInstruction :=
  ⟨fun _ _ _ _ => step_issue_of_decoded, fun _ _ _ _ => step_probe_of_decoded,
    fun _ _ _ _ hidle hseq hprobe hd =>
      step_placeCode_of_decoded hidle hseq hprobe (decodeTableWord_eq_some_iff.mp hd)⟩

/-! ### The commands a word can decode to (R61) -/

/-- A command word that decodes has the opcode of a row, and decodes to what the row builds. -/
theorem decodeCmd_ok_cases {w : Word24} {i : Instr} (h : decodeCmd w = .ok i) :
    opField w = 0x01 ∧ i = .swRead ∨ opField w = 0x10 ∧ i = .rtcWrreg (aField w) (bField w) ∨
      opField w = 0x11 ∧ i = .rtcRdreg (aField w) ∨ opField w = 0x12 ∧ i = .rtcInit ∨
      opField w = 0x13 ∧ i = .rtcGettime ∨ opField w = 0x20 ∧ i = .bcdDec (bField w) := by
  have htable := decoderFollowsTheOpcodeTable (opField w) (aField w) (bField w)
  rw [cmdWord_fields, decode, h] at htable
  split_ifs at htable <;> simp_all

theorem isCommand_of_decodeCmd {w : Word24} {i : Instr} (h : decodeCmd w = .ok i) : IsCommand i := by
  obtain ⟨-, rfl⟩ | ⟨-, rfl⟩ | ⟨-, rfl⟩ | ⟨-, rfl⟩ | ⟨-, rfl⟩ | ⟨-, rfl⟩ := decodeCmd_ok_cases h <;> simp [IsCommand]

/-- An issued word taken while idle runs a command or sets `ILL` (R61, R63). -/
theorem step_issue_of_idle {s : State} {w : Word24} {rest : List HostAct} (hnext : HostNext s (.issue w) rest)
    (hidle : s.flags.busy = false) :
    (∃ i, IsCommand i ∧ step s = exec i { s with host := rest }) ∨ step s = .next (markIllegal { s with host := rest }) := by
  cases hd : decodeCmd w with
  | ok i => exact .inl ⟨i, isCommand_of_decodeCmd hd, step_issue_of_decoded hnext hidle hd⟩
  | error e => exact .inr (step_cmdWord_of_undecoded (.inl hnext) hidle hd)

/-! ### Accepting a command (R18, R22) -/

/-- The first phase goes by the opcode. -/
theorem firstPhase_of_decodeCmd {w : Word24} {i : Instr} (h : decodeCmd w = .ok i) :
    firstPhase i = if opField w = 0x01 then .swStart .toOutput else if opField w = 0x20 then .bcd
      else .rtcBegin .clockLow := by
  obtain ⟨hop, rfl⟩ | ⟨hop, rfl⟩ | ⟨hop, rfl⟩ | ⟨hop, rfl⟩ | ⟨hop, rfl⟩ | ⟨hop, rfl⟩ := decodeCmd_ok_cases h <;>
    simp [hop, firstPhase]

theorem step_write_of_decoded {s : State} {w : Word24} {rest : List HostAct} {i : Instr}
    (hnext : HostNext s (.write 0 w) rest) (hidle : s.flags.busy = false) (hd : decodeCmd w = .ok i) :
    step s = .next (acceptCommand w i { s with host := rest }) := by
  rw [step_of_hostNext hnext]
  simp [hostStep, hostWrite, writeCmd, hidle, hd]

/-- Settles O10: the sequencer of an accepted command holds the word and its first phase. -/
theorem bareWriteAcceptsTheCommand : Obligations.BareWriteAcceptsTheCommand := by
  intro s w rest i hnext hidle hd
  exact ⟨{ Seq.idle with phase := firstPhase i, cmd := w }, step_write_of_decoded hnext hidle hd, rfl,
    firstPhase_of_decodeCmd hd⟩

/-! ### Reset (R230, R231) -/

/-- Settles O15: reset keeps the host's fields and the answers to come, all else is `State.reset`. -/
theorem resetEndsACommandAtOnce : Obligations.ResetEndsACommandAtOnce := by
  intro s rest hnext
  exact ⟨resetEngine { s with host := rest }, step_of_hostNext hnext, rfl, rfl, rfl, rfl, rfl, rfl, rfl⟩

end Sys2Proof.Machine
end

section
/-! SUPPORT. Proofs of O12, O14 and O19 (R6, R32): the fixed values of the reset state and of the parameter record. -/

namespace Sys2Proof.Machine

open Sys2Proof Sys2Proof.Claims

/-- Settles O12: computed, the time registers being 0 and `PRES` the timeout code. -/
theorem resetMeetsTheInvariant : Obligations.ResetMeetsTheInvariant := by
  show invWith Config.params State.reset = true
  rfl

/-- Settles O14: the sixteen registers one by one, the rest computed. -/
theorem resetLeavesTheTabledValues : Obligations.ResetLeavesTheTabledValues := by
  refine ⟨rfl, fun n hlow hhigh => ?_, rfl, rfl, rfl, rfl, rfl, rfl, rfl, rfl, rfl, rfl⟩
  interval_cases n <;> rfl

/-- Settles O19: an OPEN budget is one more than a natural number. -/
theorem parametersHaveTheStatedDefaults : Obligations.ParametersHaveTheStatedDefaults := by
  refine ⟨rfl, rfl, rfl, rfl, rfl, rfl, Nat.le_add_left .., Nat.le_add_left .., Nat.le_add_left .., rfl, rfl, rfl, rfl,
    rfl, rfl, rfl, rfl, rfl, ?_⟩
  simp [Params.wf, Config.params]

end Sys2Proof.Machine
end

section
/-! SUPPORT. Proofs of O21 and O22 (R92, R93, R94, R95, R97, R98): the line controller's checks and the delay. -/

namespace Sys2Proof.Machine

open Sys2Proof Sys2Proof.Claims

theorem drive_of_input {l : Line} {s : State} (h : modeOf l s = .input) (v : Level) :
    drive l v s = .refused .driveOnInputLine := by
  simp [drive, h]

theorem sample_of_output {l : BiLine} {s : State} (h : modeOf l.line s = .output) :
    sample l s = .refused .sampleOnOutputLine := by
  simp [sample, h]

/-- A sample records the level it read and takes no time. -/
theorem sampleLine_trace_tick (l : BiLine) (s : State) :
    (sampleLine l s).2.trace = s.trace ++ [.sample l (sampleLine l s).1] ∧ (sampleLine l s).2.tick = s.tick := by
  cases h : s.answers with
  | nil => rw [sampleLine_free h]; exact ⟨rfl, rfl⟩
  | cons v rest => rw [sampleLine_listed h]; exact ⟨rfl, rfl⟩

/-- Settles O21: the checks refuse the wrong mode; in Input mode the sample is the unchecked one. -/
theorem wrongModeAccessIsRefused : Obligations.WrongModeAccessIsRefused := by
  intro s l v
  refine ⟨fun hmode => drive_of_input hmode v, sample_of_output, fun hmode => ?_⟩
  obtain ⟨htrace, htick⟩ := sampleLine_trace_tick l s
  have hlisten := listens_sampleLine l s
  refine ⟨(sampleLine l s).1, (sampleLine l s).2, sample_of_input hmode, hlisten.onlyListened, hlisten.hidden, htick,
    htrace, fun rest hs => ?_⟩
  rw [sampleLine_listed hs]
  exact ⟨rfl, rfl⟩

/-- A delay below the period moves the default tick by the whole advance: nothing is lost to the wrap. -/
theorem delayUs_tick_sub {p : Params} {n : Nat} (h32 : p.tickBits = 32) (hn : n < 2 ^ 32) (s : State) :
    ((delayUs p n s).tick - s.tick).toNat = tickAdvance p n (Config.freeExcess s.draws) := by
  have hfits : tickAdvance p n (Config.freeExcess s.draws) < 2 ^ 32 := h32 ▸ tickAdvance_lt (h32.symm ▸ hn) _
  have htick : (delayUs p n s).tick = s.tick + BitVec.ofNat 32 (tickAdvance p n (Config.freeExcess s.draws)) :=
    congrArg State.tick (advanceTick_default h32 _ s)
  rw [htick, BitVec.add_comm, BitVec.add_sub_cancel, BitVec.toNat_ofNat, Nat.mod_eq_of_lt hfits]

/-- Settles O22: the advance is the length and a free excess. -/
theorem delayIsALowerBound : Obligations.DelayIsALowerBound := by
  intro p n s
  refine ⟨fun h32 hn => ?_, rfl, (listens_delayUs .sw p n s).onlyListened, rfl, rfl, rfl⟩
  rw [delayUs_tick_sub h32 hn]
  exact le_tickAdvance p n _

end Sys2Proof.Machine
end

section
/-! SUPPORT. Proofs of O29 (R116), O51 (R171, R172) and O53 (R17): the checksum, the BCD round trips, the status byte. -/

namespace Sys2Proof.Machine

open Sys2Proof Sys2Proof.Claims

/-- Settles O29: a byte sum determines each of its terms from the others. -/
theorem anySingleByteChangeIsDetected : Obligations.AnySingleByteChangeIsDetected := by
  intro b0 b1 b2 b3 b4 x h
  simp only [checksum_eq_add] at h ⊢
  subst h
  refine ⟨fun hx => ?_, fun hx => ?_, fun hx => ?_, fun hx => ?_, fun hx => hx⟩ <;> simpa using hx.symm

/-- The encoder puts the decimal digits in the nibbles. -/
theorem bcdEnc_eq_some {d : Nat} (hd : d ≤ 99) :
    ∃ v : Byte, bcdEnc d = some v ∧ v.toNat = d / 10 * 16 + d % 10 := by
  refine ⟨BitVec.ofNat 8 (d / 10 * 16 + d % 10), by simp [bcdEnc, hd], ?_⟩
  rw [BitVec.toNat_ofNat, Nat.mod_eq_of_lt (by omega)]

theorem bcdDec_bcdEnc {d : Nat} (hd : d ≤ 99) :
    ∃ v, bcdEnc d = some v ∧ validBcd v = true ∧ (bcdDec v).toNat = d := by
  obtain ⟨v, henc, hv⟩ := bcdEnc_eq_some hd
  refine ⟨v, henc, (validBcd_iff v).mpr ?_, ?_⟩
  · omega
  · rw [bcdDec_toNat]
    omega

theorem bcdEnc_of_gt {d : Nat} (hd : 99 < d) : bcdEnc d = none := by
  simp [bcdEnc, hd.not_ge]

/-- A valid byte and the encoding of its number decode alike, so they are the same. -/
theorem bcdEnc_bcdDec {v : Byte} (hv : validBcd v = true) : bcdEnc (bcdDec v).toNat = some v := by
  obtain ⟨w, henc, hw, hdec⟩ := bcdDec_bcdEnc (bcdDec_toNat_le_of_validBcd hv)
  rw [henc, bcdDec_inj_of_validBcd hw hv (BitVec.eq_of_toNat_eq hdec)]

/-- Settles O51: the two round trips, each on its domain, and the value off it. -/
theorem bcdRoundTrips : Obligations.BcdRoundTrips :=
  ⟨fun _ => bcdDec_bcdEnc, fun _ => bcdEnc_of_gt, fun _ => bcdEnc_bcdDec, by decide⟩

theorem getLsbD_flagBit (b : Bool) {i : Nat} (hi : i < 8) (k : Nat) :
    (flagBit b i).getLsbD k = (b && decide (k = i)) := by
  cases b with
  | false => simp [flagBit]
  | true =>
    have hone : ∀ j, (1 : Byte).getLsbD j = decide (j = 0) := fun j => by simp
    simp only [flagBit, if_true, BitVec.getLsbD_shiftLeft, hone, Bool.true_and]
    by_cases hk : k = i
    · simp [hk, hi]
    · simp [hk]
      omega

/-- Settles O53: each flag has one bit, at its own place. -/
theorem statusByteHoldsThreeFlags : Obligations.StatusByteHoldsThreeFlags := by
  intro f
  have hbits : ∀ k, (statusByte f).getLsbD k =
      (f.busy && decide (k = 0) || f.ckok && decide (k = 1) || f.ill && decide (k = 2)) := fun k => by
    simp only [statusByte, BitVec.getLsbD_or, getLsbD_flagBit _ (show 0 < 8 by decide),
      getLsbD_flagBit _ (show 1 < 8 by decide), getLsbD_flagBit _ (show 2 < 8 by decide)]
  refine ⟨by simp only [hbits]; simp, by simp only [hbits]; simp, by simp only [hbits]; simp, fun k hk => ?_⟩
  simp [hbits k, show k ≠ 0 by omega, show k ≠ 1 by omega, show k ≠ 2 by omega]

end Sys2Proof.Machine
end

section
/-! SUPPORT. Proofs of O54 and O55 (R10, R41, R249): what a host read returns, and that it leaves the engine alone. -/

namespace Sys2Proof.Machine

open Sys2Proof Sys2Proof.Claims

theorem hostRead_engineKept (p : Params) (n : Nat) (s : State) : EngineKept s (hostRead p n s) := by
  obtain ⟨w, k, d, h⟩ := hostRead_spec p n s
  rw [h]
  exact ⟨rfl, rfl, rfl, rfl, rfl, rfl, rfl⟩

@[simp] theorem hostRead_host (p : Params) (n : Nat) (s : State) : (hostRead p n s).host = s.host := by
  obtain ⟨w, k, d, h⟩ := hostRead_spec p n s
  rw [h]

/-- A register other than `STATUS` and `TICK` whose value is not free reads as it is held. -/
theorem hostRead_hostData_of_held (p : Params) {n : Nat} {s : State} (h1 : n ≠ 1) (h17 : n ≠ 17)
    (hfree : readsFree n s = false) : (hostRead p n s).hostData = heldValue n s := by
  simp [hostRead, h1, h17, hfree]

/-- `STATUS` reads as held while `CKOK` is not free. -/
theorem hostRead_hostData_status (p : Params) {s : State} (hfree : ckokFree s = false) :
    (hostRead p 1 s).hostData = (statusByte s.flags).setWidth 32 := by
  simp [hostRead, readStatus, hfree, heldValue]

theorem hostRead_hostData_tick (p : Params) (s : State) : (hostRead p 17 s).hostData = (hostRead p 17 s).tick := rfl

/-- While idle every register but `TICK` reads as held. -/
theorem hostRead_hostData_of_idle (p : Params) {n : Nat} {s : State} (hidle : s.flags.busy = false) (h17 : n ≠ 17) :
    (hostRead p n s).hostData = heldValue n s := by
  by_cases h1 : n = 1
  · subst h1
    exact hostRead_hostData_status p (by simp [ckokFree, hidle])
  · exact hostRead_hostData_of_held p h1 h17 (by simp [readsFree, hidle])

theorem heldValue_of_unnumbered {n : Nat} (hn : n = 0 ∨ 17 < n) (s : State) : heldValue n s = 0 := by
  obtain rfl | hn := hn
  · rfl
  · obtain ⟨k, rfl⟩ : ∃ k, n = k + 18 := ⟨n - 18, by omega⟩
    rfl

/-- A bare write to a register other than `CMD` is ignored. -/
theorem step_write_of_ne_zero {s : State} {n : Nat} {w : Word24} {rest : List HostAct} (hn : n ≠ 0)
    (hnext : HostNext s (.write n w) rest) : step s = .next { s with host := rest } := by
  rw [step_of_hostNext hnext]
  simp [hostStep, hostWrite, hn]

/-- Settles O54: number by number, what the register holds. -/
theorem idleReadsReturnTheRegisters : Obligations.IdleReadsReturnTheRegisters := by
  intro s rest n
  refine ⟨fun hidle hnext => ?_, fun w hn hnext => step_write_of_ne_zero hn hnext⟩
  have hread : n ≠ 17 → (hostRead Config.params n { s with host := rest }).hostData = heldValue n s :=
    hostRead_hostData_of_idle Config.params (s := { s with host := rest }) hidle
  refine ⟨_, step_of_hostNext hnext, hostRead_engineKept _ _ _, by simp, fun hn => ?unnumbered, ?_⟩
  case unnumbered => exact (hread (by omega)).trans (heldValue_of_unnumbered hn s)
  refine ⟨?_, ?_, ?_, ?_, ?_, ?_, ?_, ?_, ?_, ?_, ?_, ?_, ?_, ?_, ?_, ?_, ?tick⟩
  case tick =>
    rintro rfl
    exact hostRead_hostData_tick Config.params { s with host := rest }
  all_goals
    rintro rfl
    exact hread (by decide)

/-- `STATUS` read while busy: `BUSY` and `ILL` are true, whatever stands for `CKOK` (R249). -/
theorem hostRead_status_bits (p : Params) (s : State) :
    (hostRead p 1 s).hostData.getLsbD 0 = s.flags.busy ∧ (hostRead p 1 s).hostData.getLsbD 2 = s.flags.ill := by
  obtain ⟨c, hc⟩ : ∃ c, (hostRead p 1 s).hostData = (statusByte { s.flags with ckok := c }).setWidth 32 := by
    cases hfree : ckokFree s with
    | true => exact ⟨(Config.freeByte s.draws).getLsbD 0, by simp [hostRead, readStatus, hfree]⟩
    | false => exact ⟨s.flags.ckok, hostRead_hostData_status p hfree⟩
  obtain ⟨hbusy, -, hill, -⟩ := statusByteHoldsThreeFlags { s.flags with ckok := c }
  rw [hc, BitVec.getLsbD_setWidth, BitVec.getLsbD_setWidth]
  exact ⟨hbusy, hill⟩

/-- Settles O55: `CKOK` is free while `SW.READ` runs only, a register while its writer runs only. -/
theorem busyReadsKeepBusyAndIllTrue : Obligations.BusyReadsKeepBusyAndIllTrue := by
  intro s rest n i hnext hbusy hrun
  have hrun' : running { s with host := rest } = some i := hrun
  refine ⟨_, step_of_hostNext hnext, hostRead_engineKept _ _ _, by simp, ?status, fun h1 h17 hwrites => ?held⟩
  case held => exact hostRead_hostData_of_held Config.params h1 h17 (by simp [readsFree, hrun', hwrites])
  rintro rfl
  obtain ⟨hbit0, hbit2⟩ := hostRead_status_bits Config.params { s with host := rest }
  refine ⟨hbit0.trans hbusy, hbit2, fun hi => hostRead_hostData_status Config.params ?_⟩
  simp [ckokFree, hrun', hi]

end Sys2Proof.Machine
end

section
/-! SUPPORT. Proofs of O31, O32 and O33 (R116, R117, R118, R250): what `SW.READ` does whatever the line answers, and how
many samples and how much stated delay it makes at most. -/

namespace Sys2Proof.Machine

open Sys2Proof Sys2Proof.Claims

/-! ### Counting events (R251) -/

theorem sampleCount_append (es fs : List Event) : sampleCount (es ++ fs) = sampleCount es + sampleCount fs :=
  List.countP_append

theorem delayTotal_append (es fs : List Event) : delayTotal (es ++ fs) = delayTotal es + delayTotal fs := by
  induction es with
  | nil => simp [delayTotal]
  | cons e es ih => cases e <;> simp [delayTotal, ih, Nat.add_assoc]

/-- Samples of `SW` and delays only, at most `n` samples and at most `d` microseconds. -/
structure SwEventsWithin (n d : Nat) (es : List Event) : Prop where
  swOnly : ∀ e ∈ es, (∃ v, e = .sample .sw v) ∨ ∃ n, e = .delay n
  samples : sampleCount es ≤ n
  delays : delayTotal es ≤ d

theorem SwEventsWithin.append {n d m c : Nat} {es fs : List Event} (h : SwEventsWithin n d es)
    (k : SwEventsWithin m c fs) : SwEventsWithin (n + m) (d + c) (es ++ fs) where
  swOnly e he := (List.mem_append.mp he).elim (h.swOnly e) (k.swOnly e)
  samples := by rw [sampleCount_append]; exact Nat.add_le_add h.samples k.samples
  delays := by rw [delayTotal_append]; exact Nat.add_le_add h.delays k.delays

theorem SwEventsWithin.mono {n d m c : Nat} {es : List Event} (h : SwEventsWithin n d es) (hn : n ≤ m) (hd : d ≤ c) :
    SwEventsWithin m c es :=
  ⟨h.swOnly, h.samples.trans hn, h.delays.trans hd⟩

/-! ### Reading the line -/

/-- From `s` to `t` the engine reads off `SW`, with at most `n` samples and `d` microseconds of stated delay: of the
registers only `PRES` and the frame may change, of the hidden state only the byte being assembled. -/
structure ReadsLine (n d : Nat) (s t : State) : Prop where
  flags : t.flags = s.flags
  pins : t.pins = s.pins
  seq : t.seq = s.seq
  hostKept : HostKept s t
  sh : t.hidden.sh = s.hidden.sh
  acc : t.hidden.acc = s.hidden.acc
  regs : t.regs = { s.regs with
    pres := t.regs.pres, frame0 := t.regs.frame0, frame1 := t.regs.frame1, frame2 := t.regs.frame2,
    frame3 := t.regs.frame3, frame4 := t.regs.frame4 }
  trace : ∃ es, t.trace = s.trace ++ es ∧ SwEventsWithin n d es

theorem ReadsLine.trans {n d m c : Nat} {s t u : State} (h : ReadsLine n d s t) (k : ReadsLine m c t u) :
    ReadsLine (n + m) (d + c) s u := by
  obtain ⟨es, hes, hwithin⟩ := h.trace
  obtain ⟨fs, hfs, kwithin⟩ := k.trace
  refine ⟨k.flags.trans h.flags, k.pins.trans h.pins, k.seq.trans h.seq, hostKept_trans h.hostKept k.hostKept,
    k.sh.trans h.sh, k.acc.trans h.acc, ?_, es ++ fs, ?_, hwithin.append kwithin⟩
  · rw [k.regs, h.regs]
  · rw [hfs, hes, List.append_assoc]

theorem ReadsLine.mono {n d m c : Nat} {s t : State} (h : ReadsLine n d s t) (hn : n ≤ m) (hd : d ≤ c) :
    ReadsLine m c s t := by
  obtain ⟨es, hes, hwithin⟩ := h.trace
  exact { h with trace := ⟨es, hes, hwithin.mono hn hd⟩ }

theorem Listens.readsLine {n d : Nat} {s t : State} {es : List Event} (h : Listens .sw s t)
    (htrace : t.trace = s.trace ++ es) (hes : SwEventsWithin n d es) : ReadsLine n d s t where
  flags := h.flags
  pins := h.pins
  seq := h.seq
  hostKept := ⟨h.host, h.hostData, h.probe⟩
  sh := by rw [h.hidden]
  acc := by rw [h.hidden]
  regs := by rw [h.regs]
  trace := ⟨es, htrace, hes⟩

theorem swEventsWithin_nil : SwEventsWithin 0 0 [] := ⟨by simp, le_rfl, le_rfl⟩

theorem ReadsLine.refl (s : State) : ReadsLine 0 0 s s :=
  (Listens.refl .sw s).readsLine (List.append_nil _).symm swEventsWithin_nil

/-- What writes `PRES`, the frame or the byte being assembled, and records nothing. -/
theorem readsLine_silent {s t : State} {r : Regs} {v : Byte}
    (h : t = { s with regs := r, hidden := { s.hidden with v := v } })
    (hr : r = { s.regs with
      pres := r.pres, frame0 := r.frame0, frame1 := r.frame1, frame2 := r.frame2, frame3 := r.frame3,
      frame4 := r.frame4 }) : ReadsLine 0 0 s t := by
  subst h
  exact ⟨rfl, rfl, rfl, ⟨rfl, rfl, rfl⟩, rfl, rfl, hr, [], (List.append_nil _).symm, swEventsWithin_nil⟩

theorem readsLine_setPres (c : Byte) (s : State) : ReadsLine 0 0 s (setPres c s) :=
  readsLine_silent (v := s.hidden.v) rfl rfl

theorem readsLine_setFrame (k : FrameIx) (b : Byte) (s : State) : ReadsLine 0 0 s (setFrame k b s) := by
  cases k <;> exact readsLine_silent (v := s.hidden.v) rfl rfl

theorem readsLine_clearV (s : State) : ReadsLine 0 0 s (clearV s) := readsLine_silent (r := s.regs) rfl rfl

theorem readsLine_orBit (p : Params) (r : Level) (j : Nat) (s : State) : ReadsLine 0 0 s (orBit p r j s) :=
  readsLine_silent (r := s.regs) rfl rfl

theorem readsLine_sampleLine (s : State) : ReadsLine 1 0 s (sampleLine .sw s).2 :=
  (listens_sampleLine .sw s).readsLine (sampleLine_trace_tick .sw s).1 ⟨by simp, le_rfl, le_rfl⟩

theorem readsLine_delayUs (p : Params) (n : Nat) (s : State) : ReadsLine 0 n s (delayUs p n s) :=
  (listens_delayUs .sw p n s).readsLine rfl ⟨by simp, le_rfl, le_rfl⟩

theorem readsLine_spinUntil (v : Level) (n : Nat) (s : State) : ReadsLine n 0 s (spinUntil .sw v n s).2 := by
  induction n generalizing s with
  | zero => exact ReadsLine.refl s
  | succ n ih =>
    simp only [spinUntil]
    split
    · exact (readsLine_sampleLine s).mono (by omega) le_rfl
    · exact ((readsLine_sampleLine s).trans (ih _)).mono (by omega) le_rfl

theorem readsLine_swProbe (p : Params) (s : State) :
    ReadsLine 2 (p.tRespWaitUs + p.tRespHighUs) s (swProbe p s).2 := by
  simp only [swProbe]
  have hfirst := (readsLine_delayUs p p.tRespWaitUs s).trans (readsLine_sampleLine _)
  split
  · exact hfirst.mono (by omega) (by omega)
  · have hsecond := (hfirst.trans (readsLine_delayUs p p.tRespHighUs _)).trans (readsLine_sampleLine _)
    split <;> exact hsecond

theorem readsLine_swCheckResponse (p : Params) (s : State) :
    ReadsLine (2 + p.nResp) (p.tRespWaitUs + p.tRespHighUs) s (swCheckResponse p s).2 := by
  have h := (readsLine_swProbe p s).trans (readsLine_spinUntil .low p.nResp _)
  simp only [swCheckResponse]
  split <;> rename_i heq <;> simpa [heq] using h

/-- The samples of one bit at most (R112). -/
def bitBudget (p : Params) : Nat := p.nBitStart + 1 + p.nBitEnd

theorem readsLine_swReadBit (p : Params) (s : State) :
    ReadsLine (bitBudget p) p.tBitSampleUs s (swReadBit p s).2 := by
  have hstart := readsLine_spinUntil .high p.nBitStart s
  simp only [swReadBit, bitBudget]
  split <;> rename_i heq <;> rw [heq] at hstart
  · exact hstart.mono (by omega) (by omega)
  · have hend := ((hstart.trans (readsLine_delayUs p p.tBitSampleUs _)).trans (readsLine_sampleLine _)).trans
      (readsLine_spinUntil .low p.nBitEnd _)
    split <;> rename_i heq2 <;> simpa [heq2] using hend

theorem readsLine_swReadBits (p : Params) (js : List Nat) (s : State) :
    ReadsLine (js.length * bitBudget p) (js.length * p.tBitSampleUs) s (swReadBits p js s).2 := by
  induction js generalizing s with
  | nil => simpa [swReadBits] using ReadsLine.refl s
  | cons j js ih =>
    have hbit := readsLine_swReadBit p s
    simp only [swReadBits, List.length_cons, Nat.add_one_mul]
    split <;> rename_i heq <;> rw [heq] at hbit
    · exact hbit.mono (Nat.le_add_left ..) (Nat.le_add_left ..)
    · exact ((hbit.trans (readsLine_orBit p _ j _)).trans (ih _)).mono (by omega) (by omega)

theorem readsLine_swReadByte (p : Params) (s : State) :
    ReadsLine (p.byteBits * bitBudget p) (p.byteBits * p.tBitSampleUs) s (swReadByte p s).2 := by
  have hbits := (readsLine_clearV s).trans (readsLine_swReadBits p (List.range p.byteBits) _)
  simp only [swReadByte]
  split <;> rename_i heq <;> simpa [heq] using hbits

theorem readsLine_swReadFrame (p : Params) (s : State) :
    ReadsLine ((frameOrder p).length * (p.byteBits * bitBudget p))
      ((frameOrder p).length * (p.byteBits * p.tBitSampleUs)) s (swReadFrame p s) := by
  unfold swReadFrame
  induction frameOrder p generalizing s with
  | nil => simpa using ReadsLine.refl s
  | cons k ks ih =>
    have hbyte := (readsLine_swReadByte p s).trans (readsLine_setFrame k (swReadByte p s).1 _)
    simp only [List.length_cons, Nat.add_one_mul, List.foldl_cons]
    exact (hbyte.trans (ih (swReadInto p k s))).mono (by omega) (by omega)

/-! ### The command (R117) -/

/-- The state in which `SwValidate` finds the engine. -/
def swFrameRead (p : Params) (s : State) : State := swReadFrame p (swStorePresence p (swStart p s))

theorem readsLine_swFrameRead (p : Params) (s : State) :
    ReadsLine (2 + p.nResp + (frameOrder p).length * (p.byteBits * bitBudget p))
      (p.tRespWaitUs + p.tRespHighUs + (frameOrder p).length * (p.byteBits * p.tBitSampleUs)) (swStart p s)
      (swFrameRead p s) :=
  ((readsLine_swCheckResponse p (swStart p s)).trans (readsLine_setPres _ _)).trans (readsLine_swReadFrame p _)

theorem exec_swRead (s : State) :
    exec .swRead s = .next (endCommand (swValidate (swFrameRead Config.params (beginCommand s)))) := rfl

/-- `SwValidate` writes the reading and `CKOK` at most. -/
theorem swValidate_frame (s : State) : ∃ h t c, swValidate s =
    { s with regs := { s.regs with hum := h, temp := t }, flags := { s.flags with ckok := c } } := by
  cases haccepted : frameAccepted s with
  | true => exact ⟨s.regs.frame0, s.regs.frame2, true, swValidate_of_accepted haccepted⟩
  | false => exact ⟨s.regs.hum, s.regs.temp, false, swValidate_of_rejected haccepted⟩

/-- Settles O31: the frame just read is accepted or rejected. -/
theorem swReadAcceptsByTheChecksum : Obligations.SwReadAcceptsByTheChecksum := by
  intro s
  have hread := (readsLine_swFrameRead Config.params (beginCommand s)).regs
  refine ⟨_, exec_swRead s, ?_⟩
  generalize swFrameRead Config.params (beginCommand s) = u at hread
  have hzero := swValidate_of_zero_frame (s := u)
  cases haccepted : frameAccepted u with
  | true =>
    rw [swValidate_of_accepted haccepted] at hzero ⊢
    exact ⟨iff_of_true rfl ((frameAccepted_iff_checksum u).mp haccepted), fun _ => ⟨rfl, rfl⟩, by simp, hzero⟩
  | false =>
    rw [swValidate_of_rejected haccepted] at hzero ⊢
    have hne : ¬ u.regs.frame4 = checksum u.regs.frame0 u.regs.frame1 u.regs.frame2 u.regs.frame3 := by
      rw [← frameAccepted_iff_checksum, haccepted]
      simp
    refine ⟨iff_of_false (by simp) hne, by simp, fun _ => ?_, hzero⟩
    show u.regs.hum = s.regs.hum ∧ u.regs.temp = s.regs.temp
    rw [hread]
    simp

theorem swProbe_code (p : Params) (s : State) :
    (swProbe p s).1 = p.presNone ∨ (swProbe p s).1 = p.presOk ∨ (swProbe p s).1 = p.presErr := by
  simp only [swProbe]
  split
  · exact .inl rfl
  · split
    · exact .inr (.inl rfl)
    · exact .inr (.inr rfl)

theorem isPresCode_iff (p : Params) (c : Byte) :
    isPresCode p c = true ↔ c = p.presTimeout ∨ c = p.presNone ∨ c = p.presOk ∨ c = p.presErr := by
  simp [isPresCode, or_assoc]

theorem isPresCode_swCheckResponse (p : Params) (s : State) : isPresCode p (swCheckResponse p s).1 = true := by
  rw [isPresCode_iff]
  simp only [swCheckResponse]
  split
  · exact .inl rfl
  · exact .inr (swProbe_code p s)

@[simp] theorem setFrame_pres (k : FrameIx) (b : Byte) (s : State) : (setFrame k b s).regs.pres = s.regs.pres := by
  cases k <;> rfl

@[simp] theorem swReadInto_pres (p : Params) (k : FrameIx) (s : State) :
    (swReadInto p k s).regs.pres = s.regs.pres := by
  simp [swReadInto]

@[simp] theorem swReadFrame_pres (p : Params) (s : State) : (swReadFrame p s).regs.pres = s.regs.pres := by
  unfold swReadFrame
  induction frameOrder p generalizing s with
  | nil => rfl
  | cons k ks ih => simp [ih]

theorem isPresCode_swFrameRead (p : Params) (s : State) : isPresCode p (swFrameRead p s).regs.pres = true := by
  rw [swFrameRead, swReadFrame_pres]
  exact isPresCode_swCheckResponse p (swStart p s)

/-- The register of a time field, in the registers alone (R13). -/
def Regs.time (r : Regs) : TimeField → Byte
  | .sec => r.timeSec
  | .min => r.timeMin
  | .hour => r.timeHour
  | .date => r.timeDate
  | .month => r.timeMonth
  | .year => r.timeYear

theorem timeReg_eq_time (f : TimeField) (s : State) : timeReg f s = s.regs.time f := by cases f <;> rfl

/-- Settles O32: the start pulse, then reading the line, then `SwValidate`. -/
theorem swReadTouchesOnlyItsOwnHalf : Obligations.SwReadTouchesOnlyItsOwnHalf := by
  intro s
  have hread := readsLine_swFrameRead Config.params (beginCommand s)
  have hpres := isPresCode_swFrameRead Config.params (beginCommand s)
  have hexec := exec_swRead s
  generalize swFrameRead Config.params (beginCommand s) = u at hread hpres hexec
  obtain ⟨es, htrace, hwithin⟩ := hread.trace
  obtain ⟨_, _, _, hvalidate⟩ := swValidate_frame u
  have hregs := hread.regs
  rw [swStart_regs, beginCommand_regs] at hregs
  refine ⟨_, es, hexec, ?_, hwithin.swOnly, ?_⟩ <;> rw [hvalidate]
  · simpa using htrace
  refine ⟨by simpa using hread.pins, hpres, fun f => ?_, ?_, by simpa using hread.sh, by simpa using hread.acc, rfl,
    by simp [hread.flags], rfl, by simpa [HostKept, swStart, delayMs] using hread.hostKept⟩
  · rw [timeReg_eq_time, timeReg_eq_time, endCommand_regs, hregs]
    cases f <;> rfl
  · rw [endCommand_regs, hregs]

/-- Settles O33: the sum of the parts' budgets; a frame is five bytes of eight bits. -/
theorem swReadIsBoundedByItsBudgets : Obligations.SwReadIsBoundedByItsBudgets := by
  intro s
  have hread := readsLine_swFrameRead Config.params (beginCommand s)
  obtain ⟨es, htrace, hwithin⟩ := hread.trace
  obtain ⟨_, _, _, hvalidate⟩ := swValidate_frame (swFrameRead Config.params (beginCommand s))
  refine ⟨_, swStartEvents Config.params ++ es, exec_swRead s, ?_, ?samples, ?delays⟩
  · rw [hvalidate]
    simpa using htrace
  case samples =>
    have hstart : sampleCount (swStartEvents Config.params) = 0 := rfl
    have hes : sampleCount es ≤ 2 + Config.params.nResp + 5 * (8 * bitBudget Config.params) := hwithin.samples
    unfold bitBudget at hes
    rw [sampleCount_append]
    omega
  case delays =>
    have hstart : delayTotal (swStartEvents Config.params) =
        1000 * Config.params.tResetLowMs + Config.params.tStartHighUs := rfl
    have hes : delayTotal es ≤ Config.params.tRespWaitUs + Config.params.tRespHighUs +
        5 * (8 * Config.params.tBitSampleUs) := hwithin.delays
    rw [delayTotal_append]
    omega

end Sys2Proof.Machine
end

section
/-! SUPPORT. Proofs of O44 and O45 (R70, R145, R146): a row of the address table runs as one register transaction. -/

namespace Sys2Proof.Machine

open Sys2Proof Sys2Proof.Claims

theorem exec_writeRow (v : Byte) (s : State) :
    ∀ r ∈ writeRows v, exec r.1 s = .next (writeRegister Config.params r.2 v s) := by
  simp only [writeRows, List.forall_mem_cons, List.not_mem_nil, false_imp_iff, implies_true, and_true]
  exact ⟨rfl, rfl, rfl, rfl, rfl, rfl, rfl, rfl⟩

theorem exec_readRow (s : State) : ∀ r ∈ readRows, exec r.1 s = .next (readRegister Config.params r.2 s) := by
  simp only [readRows, List.forall_mem_cons, List.not_mem_nil, false_imp_iff, implies_true, and_true]
  exact ⟨rfl, rfl, rfl, rfl, rfl, rfl, rfl, rfl⟩

/-- Every address of the table has its top bit set. -/
theorem bitLevel_readRow_top : ∀ r ∈ readRows, bitLevel r.2 7 = .high := by decide

/-- An instruction is a command or a row of the address table. -/
theorem command_or_row (i : Instr) :
    IsCommand i ∨ (∃ v a, (i, a) ∈ writeRows v) ∨ ∃ a, (i, a) ∈ readRows := by
  cases i with
  | swRead | rtcWrreg | rtcRdreg | rtcInit | rtcGettime | bcdDec => exact .inl (by simp [IsCommand])
  | aSecW v | aMinW v | aHourW v | aDateW v | aMonthW v | aF7W v | aYearW v | aWpW v =>
    exact .inr (.inl ⟨v, by simp [writeRows]⟩)
  | aSecR | aMinR | aHourR | aDateR | aMonthR | aF7R | aYearR | aWpR => exact .inr (.inr (by simp [readRows]))

/-- Settles O44: the equation of `WriteRegister`, read off field by field. -/
theorem writeAddressRowsSendTheirTransaction : Obligations.WriteAddressRowsSendTheirTransaction := by
  intro v s r hr
  obtain ⟨d, k, h⟩ := writeRegister_spec params_byteBits r.2 v s
  refine ⟨_, exec_writeRow v s r hr, ?_⟩
  rw [h]
  exact ⟨rfl, rfl, rfl, rfl, rfl, rfl, rfl, rfl, rfl, rfl⟩

/-- Settles O45: the equation of `ReadRegister`, read off field by field. -/
theorem readAddressRowsReadTheirTransaction : Obligations.ReadAddressRowsReadTheirTransaction := by
  intro s r hr
  obtain ⟨x, as, d, k, hheard, h⟩ := readRegister_spec params_byteBits r.2 s
  refine ⟨_, exec_readRow s r hr, ?_⟩
  rw [h, bitLevel_readRow_top r hr]
  exact ⟨rfl, fun _ _ hs => hheard.eq_of_byte_listed hs, rfl, rfl, rfl, rfl, rfl, rfl, rfl, rfl⟩

end Sys2Proof.Machine
end

section
/-! SUPPORT. Proofs of O46, O47, O48 and O49 (R14, R68, R98, R151, R152, R240, R251): the new events of every instruction but
`SW.READ` are whole transactions, so a rule over all of them is proved for one transaction. -/

namespace Sys2Proof.Machine

open Sys2Proof Sys2Proof.Claims

/-! ### Whole transactions -/

/-- A list of events that is whole register transactions, one after the other (R68). -/
inductive Transactions (p : Params) : List Event → Prop where
  | nil : Transactions p []
  | write (a v : Byte) {es : List Event} (h : Transactions p es) : Transactions p (writeRegisterEvents p a v ++ es)
  | read (a r : Byte) {es : List Event} (h : Transactions p es) : Transactions p (readRegisterEvents p a r ++ es)

theorem Transactions.append {p : Params} {es fs : List Event} (h : Transactions p es) (k : Transactions p fs) :
    Transactions p (es ++ fs) := by
  induction h with
  | nil => exact k
  | write a v _ ih => rw [List.append_assoc]; exact .write a v ih
  | read a r _ ih => rw [List.append_assoc]; exact .read a r ih

theorem transactions_write (p : Params) (a v : Byte) : Transactions p (writeRegisterEvents p a v) := by
  simpa using Transactions.write (p := p) a v .nil

theorem transactions_read (p : Params) (a r : Byte) : Transactions p (readRegisterEvents p a r) := by
  simpa using Transactions.read (p := p) a r .nil

theorem transactions_flatMap_write (p : Params) (ws : List (Byte × Byte)) :
    Transactions p (ws.flatMap fun w => writeRegisterEvents p w.1 w.2) := by
  induction ws with
  | nil => exact .nil
  | cons w ws ih => exact .write w.1 w.2 ih

/-- What the instruction `i`, not `SW.READ`, makes of `s`: whole transactions, recorded as `es`; where it makes any it leaves
the three wires at rest, and `SW` alone; only `RTC.GETTIME` writes a time register, with a decoded byte; a command ends idle,
a row of the address table leaves the flags and the sequencer. -/
structure Transacts (p : Params) (i : Instr) (es : List Event) (s t : State) : Prop where
  trace : t.trace = s.trace ++ es
  transactions : Transactions p es
  pins : t.pins = s.pins ∨ ∃ m v, t.pins = restedPins m v s
  pres : t.regs.pres = s.regs.pres
  time : (∀ f, t.regs.time f = s.regs.time f) ∨ i = .rtcGettime ∧ ∀ f, ∃ r, t.regs.time f = bcdDec r
  idle : t.flags.busy = false ∧ t.seq.phase = .idle ∨ t.flags = s.flags ∧ t.seq = s.seq
  hostKept : HostKept s t

/-- Every instruction but `SW.READ` makes whole transactions. -/
theorem exec_transacts {i : Instr} (hi : i ≠ .swRead) (s : State) :
    ∃ t es, exec i s = .next t ∧ Transacts Config.params i es s t := by
  obtain (rfl | ⟨a, b, rfl⟩ | ⟨a, rfl⟩ | rfl | rfl | ⟨b, rfl⟩) | ⟨v, a, hrow⟩ | ⟨a, hrow⟩ := command_or_row i
  · exact absurd rfl hi
  · obtain ⟨t, ht, htrace, -, hpins, hregs, hflags, -, hphase, -, hhost⟩ := wrregSendsOneWriteTransaction.2 a b s
    exact ⟨t, _, ht, htrace, transactions_write _ a b, .inr ⟨_, _, hpins⟩, by rw [hregs], .inl (by simp [hregs]),
      .inl ⟨by rw [hflags]; rfl, hphase⟩, hhost⟩
  · obtain ⟨t, ht, htrace, -, -, hpins, hregs, hflags, -, hphase, hhost⟩ := rdregStoresTheByteItSampled.2 a s
    exact ⟨t, _, ht, htrace, transactions_read _ a _, .inr ⟨_, _, hpins⟩, by rw [hregs],
      .inl fun f => by rw [hregs]; cases f <;> rfl, .inl ⟨by rw [hflags]; rfl, hphase⟩, hhost⟩
  · obtain ⟨t, ht, htrace, hpins, hregs, hflags, -, hphase, -, hhost⟩ := initWritesUnlockSeedsLock.2 s
    exact ⟨t, _, ht, htrace, transactions_flatMap_write _ _, .inr ⟨_, _, hpins⟩, by rw [hregs], .inl (by simp [hregs]),
      .inl ⟨by rw [hflags]; rfl, hphase⟩, hhost⟩
  · obtain ⟨t, r0, r1, r2, r3, r4, r5, ht, htrace, hregs, -, hpins, hflags, -, hphase, hhost⟩ :=
      gettimeReadsAndDecodesSixFields.2 s
    simp only [List.append_assoc] at htrace
    exact ⟨t, _, ht, htrace, .read _ _ <| .read _ _ <| .read _ _ <| .read _ _ <| .read _ _ <| transactions_read _ _ _,
      .inr ⟨_, _, hpins⟩, by rw [hregs], .inr ⟨rfl, fun f => by rw [hregs]; cases f <;> exact ⟨_, rfl⟩⟩,
      .inl ⟨by rw [hflags]; rfl, hphase⟩, hhost⟩
  · exact ⟨_, [], exec_bcdDec_spec b s, (List.append_nil _).symm, .nil, .inl rfl, rfl, .inl fun f => by cases f <;> rfl,
      .inl ⟨rfl, rfl⟩, rfl, rfl, rfl⟩
  · obtain ⟨t, ht, htrace, hpins, hregs, hflags, -, hseq, -, hhost⟩ := writeAddressRowsSendTheirTransaction v s _ hrow
    exact ⟨t, _, ht, htrace, transactions_write _ _ v, .inr ⟨_, _, hpins⟩, by rw [hregs], .inl (by simp [hregs]),
      .inr ⟨hflags, hseq⟩, hhost⟩
  · obtain ⟨t, ht, htrace, -, hpins, hregs, hflags, -, hseq, hhost⟩ := readAddressRowsReadTheirTransaction s _ hrow
    exact ⟨t, _, ht, htrace, transactions_read _ _ _, .inr ⟨_, _, hpins⟩, by rw [hregs], .inl (by simp [hregs]),
      .inr ⟨hflags, hseq⟩, hhost⟩

/-! ### The rules over one transaction -/

/-- The mode rule through a byte sent: `DAT` is Output after it (R141). -/
theorem modesRespected_writeByteEvents {p : Params} (h8 : p.byteBits = 8) (sw dat : Mode) (v : Byte) (es : List Event) :
    modesRespected sw dat (writeByteEvents p v ++ es) = modesRespected sw .output es := by
  simp [writeByteEvents, h8, pulseEvents, List.range_succ, modesRespected]

/-- The mode rule through a byte received: `DAT` is Input after it (R142). -/
theorem modesRespected_readByteEvents {p : Params} (h8 : p.byteBits = 8) (sw dat : Mode) (r : Byte) (es : List Event) :
    modesRespected sw dat (readByteEvents p r ++ es) = modesRespected sw .input es := by
  simp [readByteEvents, h8, pulseEvents, List.range_succ, modesRespected]

theorem modesRespected_of_transactions {p : Params} (h8 : p.byteBits = 8) {es : List Event} (h : Transactions p es)
    (sw dat : Mode) : modesRespected sw dat es = true := by
  induction h generalizing dat with
  | nil => rfl
  | write a v _ ih =>
    simp only [writeRegisterEvents, List.append_assoc, List.cons_append, List.nil_append, modesRespected,
      modesRespected_writeByteEvents h8, ih]
  | read a r _ ih =>
    simp only [readRegisterEvents, List.append_assoc, List.cons_append, List.nil_append, modesRespected,
      modesRespected_writeByteEvents h8, modesRespected_readByteEvents h8, ih]

/-- A byte, either way, is eight pulses inside its transaction. -/
theorem framed_writeByteEvents {p : Params} (h8 : p.byteBits = 8) (k : Nat) (v : Byte) (es : List Event) :
    framed (some k) (writeByteEvents p v ++ es) = framed (some (k + 8)) es := by
  simp [writeByteEvents, h8, pulseEvents, List.range_succ, framed]

theorem framed_readByteEvents {p : Params} (h8 : p.byteBits = 8) (k : Nat) (r : Byte) (es : List Event) :
    framed (some k) (readByteEvents p r ++ es) = framed (some (k + 8)) es := by
  simp [readByteEvents, h8, pulseEvents, List.range_succ, framed]

theorem framed_of_transactions {p : Params} (h8 : p.byteBits = 8) {es : List Event} (h : Transactions p es) :
    framed none es = true := by
  induction h with
  | nil => rfl
  | write a v _ ih =>
    simp [writeRegisterEvents, framed, framed_writeByteEvents h8, ih]
  | read a r _ ih =>
    simp [readRegisterEvents, framed, framed_writeByteEvents h8, framed_readByteEvents h8, ih]

theorem eventLine_writeByteEvents {p : Params} (h8 : p.byteBits = 8) (v : Byte) :
    ∀ e ∈ writeByteEvents p v, eventLine e ≠ some .sw := by
  simp [writeByteEvents, h8, pulseEvents, List.range_succ, eventLine, BiLine.line]

theorem eventLine_readByteEvents {p : Params} (h8 : p.byteBits = 8) (r : Byte) :
    ∀ e ∈ readByteEvents p r, eventLine e ≠ some .sw := by
  simp [readByteEvents, h8, pulseEvents, List.range_succ, eventLine, BiLine.line]

theorem eventLine_drive (l : Line) (v : Level) : eventLine (.drive l v) = some l := rfl

theorem eventLine_of_transactions {p : Params} (h8 : p.byteBits = 8) {es : List Event} (h : Transactions p es) :
    ∀ e ∈ es, eventLine e ≠ some .sw := by
  induction h with
  | nil => simp
  | write a v _ ih =>
    simp only [writeRegisterEvents, List.forall_mem_append]
    exact ⟨⟨⟨⟨by simp [eventLine_drive], eventLine_writeByteEvents h8 a⟩, eventLine_writeByteEvents h8 v⟩,
      by simp [eventLine_drive]⟩, ih⟩
  | read a r _ ih =>
    simp only [readRegisterEvents, List.forall_mem_append]
    exact ⟨⟨⟨⟨by simp [eventLine_drive], eventLine_writeByteEvents h8 a⟩, eventLine_readByteEvents h8 r⟩,
      by simp [eventLine_drive]⟩, ih⟩

/-! ### `SW.READ` -/

/-- Samples of `SW` and delays. -/
abbrev OnSw (es : List Event) : Prop := ∀ e ∈ es, (∃ v, e = .sample .sw v) ∨ ∃ n, e = .delay n

theorem modesRespected_of_onSw {es : List Event} (h : OnSw es) (dat : Mode) : modesRespected .input dat es = true := by
  induction es with
  | nil => rfl
  | cons e es ih =>
    obtain ⟨he, hes⟩ := List.forall_mem_cons.mp h
    obtain ⟨v, rfl⟩ | ⟨n, rfl⟩ := he <;> simp [modesRespected, ih hes]

theorem framed_of_onSw {es : List Event} (h : OnSw es) : framed none es = true := by
  induction es with
  | nil => rfl
  | cons e es ih =>
    obtain ⟨he, hes⟩ := List.forall_mem_cons.mp h
    obtain ⟨v, rfl⟩ | ⟨n, rfl⟩ := he <;> simp [framed, ih hes]

/-- What `SW.READ` records and what it leaves of the pins (R117, R118). -/
theorem exec_swRead_events (s : State) : ∃ t es, exec .swRead s = .next t ∧
    t.trace = s.trace ++ (swStartEvents Config.params ++ es) ∧ OnSw es ∧
    t.pins = { s.pins with swMode := .input, swLatch := .high } := by
  obtain ⟨t, es, ht, htrace, hes, hpins, -⟩ := swReadTouchesOnlyItsOwnHalf s
  exact ⟨t, es, ht, by rw [htrace, List.append_assoc], hes, hpins⟩

/-! ### The rules over all instructions -/

/-- Settles O47: each byte of a transaction turns `DAT` before its first bit, and the start pulse turns `SW` both ways. -/
theorem everyInstructionRespectsTheModes : Obligations.EveryInstructionRespectsTheModes := by
  intro i s
  by_cases hi : i = .swRead
  · subst hi
    obtain ⟨t, es, ht, htrace, hes, -⟩ := exec_swRead_events s
    exact ⟨t, _, ht, htrace, by simp [swStartEvents, modesRespected, modesRespected_of_onSw hes]⟩
  · obtain ⟨t, es, ht, h⟩ := exec_transacts hi s
    exact ⟨t, es, ht, h.trace, modesRespected_of_transactions params_byteBits h.transactions _ _⟩

/-- Settles O48: a transaction is two bytes of eight pulses, and it ends with `CE` and `CLK` Low. -/
theorem everyTransactionHasSixteenPulses : Obligations.EveryTransactionHasSixteenPulses := by
  intro i s
  by_cases hi : i = .swRead
  · subst hi
    obtain ⟨t, es, ht, htrace, hes, hpins⟩ := exec_swRead_events s
    exact ⟨t, _, ht, htrace, by simp [swStartEvents, framed, framed_of_onSw hes], by simp [busRests, hpins]⟩
  · obtain ⟨t, es, ht, h⟩ := exec_transacts hi s
    refine ⟨t, es, ht, h.trace, framed_of_transactions params_byteBits h.transactions, fun hs => ?_⟩
    obtain hpins | ⟨m, v, hpins⟩ := h.pins
    · simpa [busRests, hpins] using hs
    · simp [busRests, hpins, restedPins]

/-- Settles O49: the start pulse and the samples are on `SW`, the transactions on the three other lines. -/
theorem theHalvesShareNoLine : Obligations.TheHalvesShareNoLine := by
  intro i s
  by_cases hi : i = .swRead
  · subst hi
    obtain ⟨t, es, ht, htrace, hes, -⟩ := exec_swRead_events s
    refine ⟨t, _, ht, htrace, fun _ => List.forall_mem_append.mpr ⟨?start, fun e he => ?listen⟩, by simp, by simp⟩
    case start => simp [swStartEvents, eventLine, BiLine.line]
    case listen => obtain ⟨v, rfl⟩ | ⟨n, rfl⟩ := hes e he <;> simp [eventLine, BiLine.line]
  · obtain ⟨t, es, ht, h⟩ := exec_transacts hi s
    refine ⟨t, es, ht, h.trace, by simp [hi],
      fun _ => ⟨eventLine_of_transactions params_byteBits h.transactions, ?mode, ?latch⟩, fun b hb => ?bcd⟩
    case bcd =>
      subst hb
      obtain rfl : _ = t := by simpa [exec_bcdDec_spec] using ht
      simpa using h.trace
    all_goals obtain hpins | ⟨m, v, hpins⟩ := h.pins <;> simp [hpins, restedPins]

/-! ### Stated delays and samples (R251) -/

/-- Bits, each an event of no time and a pulse, take two clock phases each. -/
theorem delayTotal_bits {e : Nat → Event} (he : ∀ i, delayTotal [e i] = 0) (p : Params) (is : List Nat) :
    delayTotal (is.flatMap fun i => e i :: pulseEvents p) = is.length * (2 * p.tClkPhaseUs) := by
  induction is with
  | nil => simp [delayTotal]
  | cons i is ih =>
    have hpulse : delayTotal (pulseEvents p) = 2 * p.tClkPhaseUs := by simp [pulseEvents, delayTotal, Nat.two_mul]
    rw [List.flatMap_cons, ← List.singleton_append, delayTotal_append, delayTotal_append, he, hpulse, ih,
      List.length_cons, Nat.add_one_mul is.length]
    omega

theorem sampleCount_bits {e : Nat → Event} {c : Nat} (he : ∀ i, sampleCount [e i] = c) (p : Params) (is : List Nat) :
    sampleCount (is.flatMap fun i => e i :: pulseEvents p) = is.length * c := by
  induction is with
  | nil => simp [sampleCount]
  | cons i is ih =>
    have hpulse : sampleCount (pulseEvents p) = 0 := rfl
    rw [List.flatMap_cons, ← List.singleton_append, sampleCount_append, sampleCount_append, he, hpulse, ih,
      List.length_cons, Nat.add_one_mul is.length]
    omega

theorem delayTotal_writeByteEvents {p : Params} (h8 : p.byteBits = 8) (v : Byte) :
    delayTotal (writeByteEvents p v) = 16 * p.tClkPhaseUs := by
  rw [writeByteEvents, delayTotal, delayTotal_bits (fun _ => rfl), List.length_range, h8]
  · omega
  · simp

theorem delayTotal_readByteEvents {p : Params} (h8 : p.byteBits = 8) (r : Byte) :
    delayTotal (readByteEvents p r) = 16 * p.tClkPhaseUs := by
  rw [readByteEvents, delayTotal, delayTotal_bits (fun _ => rfl), List.length_range, h8]
  · omega
  · simp

theorem sampleCount_writeByteEvents (p : Params) (v : Byte) : sampleCount (writeByteEvents p v) = 0 :=
  sampleCount_bits (e := fun i => .drive .dat (bitLevel v i)) (fun _ => rfl) p (List.range p.byteBits)

theorem sampleCount_readByteEvents {p : Params} (h8 : p.byteBits = 8) (r : Byte) :
    sampleCount (readByteEvents p r) = 8 := by
  have hbits := sampleCount_bits (e := fun i => .sample .dat (bitLevel r i)) (fun _ => rfl) p (List.range p.byteBits)
  exact hbits.trans (by simp [h8])

theorem delayTotal_writeRegisterEvents {p : Params} (h8 : p.byteBits = 8) (a v : Byte) :
    delayTotal (writeRegisterEvents p a v) = 32 * p.tClkPhaseUs := by
  simp only [writeRegisterEvents, delayTotal_append, delayTotal_writeByteEvents h8, delayTotal]
  omega

theorem delayTotal_readRegisterEvents {p : Params} (h8 : p.byteBits = 8) (a r : Byte) :
    delayTotal (readRegisterEvents p a r) = 32 * p.tClkPhaseUs := by
  simp only [readRegisterEvents, delayTotal_append, delayTotal_writeByteEvents h8, delayTotal_readByteEvents h8,
    delayTotal]
  omega

theorem sampleCount_writeRegisterEvents (p : Params) (a v : Byte) :
    sampleCount (writeRegisterEvents p a v) = 0 := by
  simp only [writeRegisterEvents, sampleCount_append, sampleCount_writeByteEvents]
  rfl

theorem sampleCount_readRegisterEvents {p : Params} (h8 : p.byteBits = 8) (a r : Byte) :
    sampleCount (readRegisterEvents p a r) = 8 := by
  simp only [readRegisterEvents, sampleCount_append, sampleCount_writeByteEvents, sampleCount_readByteEvents h8]
  rfl

/-- Write transactions take 32 clock phases each and sample nothing. -/
theorem delayTotal_flatMap_write {p : Params} (h8 : p.byteBits = 8) (ws : List (Byte × Byte)) :
    delayTotal (ws.flatMap fun w => writeRegisterEvents p w.1 w.2) = ws.length * (32 * p.tClkPhaseUs) := by
  induction ws with
  | nil => simp [delayTotal]
  | cons w ws ih =>
    rw [List.flatMap_cons, delayTotal_append, delayTotal_writeRegisterEvents h8, ih, List.length_cons,
      Nat.add_one_mul ws.length, Nat.add_comm]

theorem sampleCount_flatMap_write (p : Params) (ws : List (Byte × Byte)) :
    sampleCount (ws.flatMap fun w => writeRegisterEvents p w.1 w.2) = 0 := by
  induction ws with
  | nil => rfl
  | cons w ws ih => simp only [List.flatMap_cons, sampleCount_append, sampleCount_writeRegisterEvents, ih]

theorem length_initPairs (p : Params) : (initPairs p).length = if p.seedEnable then 9 else 2 := by
  unfold initPairs
  split <;> rfl

/-- Settles O46: a transaction is sixteen pulses of two phases; a read samples eight bits. -/
theorem statedDelaysOfTheOtherCommands : Obligations.StatedDelaysOfTheOtherCommands := by
  have hphase : Config.params.tClkPhaseUs = 1 := rfl
  refine ⟨hphase, fun a b s => ⟨?wrreg, ?rdreg, ?init, ?gettime, ?bcd⟩⟩
  case wrreg =>
    obtain ⟨t, ht, htrace, -⟩ := wrregSendsOneWriteTransaction.2 a b s
    exact ⟨t, _, ht, htrace, delayTotal_writeRegisterEvents params_byteBits a b,
      sampleCount_writeRegisterEvents _ a b⟩
  case rdreg =>
    obtain ⟨t, ht, htrace, -⟩ := rdregStoresTheByteItSampled.2 a s
    exact ⟨t, _, ht, htrace, delayTotal_readRegisterEvents params_byteBits a _,
      sampleCount_readRegisterEvents params_byteBits a _⟩
  case init =>
    obtain ⟨t, ht, htrace, -⟩ := initWritesUnlockSeedsLock.2 s
    refine ⟨t, _, ht, htrace, ?_, sampleCount_flatMap_write _ _⟩
    rw [delayTotal_flatMap_write params_byteBits, length_initPairs, hphase]
    split <;> rfl
  case gettime =>
    obtain ⟨t, r0, r1, r2, r3, r4, r5, ht, htrace, -⟩ := gettimeReadsAndDecodesSixFields.2 s
    simp only [List.append_assoc] at htrace
    refine ⟨t, _, ht, htrace, ?_, ?_⟩
    · simp only [delayTotal_append, delayTotal_readRegisterEvents params_byteBits, hphase]
    · simp only [sampleCount_append, sampleCount_readRegisterEvents params_byteBits]
  case bcd => exact ⟨_, [], exec_bcdDec_spec b s, (List.append_nil _).symm, rfl, rfl⟩

end Sys2Proof.Machine
end

section
/-! SUPPORT. Proofs of O7, O17 and O18 (R9, R13, R52): what every step leaves of the laid-in transaction, the trace and the
time registers. -/

namespace Sys2Proof.Machine

open Sys2Proof Sys2Proof.Claims

/-- From `s` to `t` no transaction is laid in or taken out, the trace only grows, and a time register changes only if `w`. -/
def GoesOn (w : Prop) (s t : State) : Prop :=
  t.probe = s.probe ∧ s.trace <+: t.trace ∧ (w ∨ ∀ f, t.regs.time f = s.regs.time f)

/-- The same with no time register changed at all. -/
abbrev KeepsTime : State → State → Prop := GoesOn False

theorem GoesOn.trans {w : Prop} {s t u : State} (h : GoesOn w s t) (k : GoesOn w t u) : GoesOn w s u := by
  obtain ⟨hprobe, htrace, htime⟩ := h
  obtain ⟨kprobe, ktrace, ktime⟩ := k
  refine ⟨kprobe.trans hprobe, htrace.trans ktrace, ?_⟩
  obtain hw | htime := htime
  · exact .inl hw
  · exact ktime.imp_right fun kt f => (kt f).trans (htime f)

theorem GoesOn.imp {w w' : Prop} {s t : State} (h : GoesOn w s t) (hw : w → w') : GoesOn w' s t := by
  obtain ⟨hprobe, htrace, htime⟩ := h
  exact ⟨hprobe, htrace, htime.imp_left hw⟩

theorem KeepsTime.goesOn {w : Prop} {s t : State} (h : KeepsTime s t) : GoesOn w s t := GoesOn.imp h False.elim

/-! ### Updates of the registers (R13) -/

@[simp] theorem time_pres_update (r : Regs) (b : Byte) (f : TimeField) : Regs.time { r with pres := b } f = r.time f := by
  cases f <;> rfl

@[simp] theorem time_rdata_update (r : Regs) (b : Byte) (f : TimeField) :
    Regs.time { r with rdata := b } f = r.time f := by
  cases f <;> rfl

@[simp] theorem setFrame_time (k : FrameIx) (b : Byte) (s : State) (f : TimeField) :
    (setFrame k b s).regs.time f = s.regs.time f := by
  cases k <;> cases f <;> rfl

/-! ### The sequencer's steps -/

theorem keepsTime_sampleLine (l : BiLine) (s : State) : KeepsTime s (sampleLine l s).2 := by
  obtain ⟨_, hregs, _, _, _, _, _, hprobe, es, htrace, _⟩ := listens_sampleLine l s
  exact ⟨hprobe, ⟨es, htrace.symm⟩, .inr fun f => by rw [hregs]⟩

theorem keepsTime_setSpin (n : Nat) (s : State) : KeepsTime s (setSpin n s) := by simp [GoesOn]

/-- A checked drive, then an update of the state that follows. -/
theorem drive_mapNext_keepsTime (l : Line) (v : Level) (s : State) {f : State → State}
    (hf : ∀ t, KeepsTime t (f t)) : Yields (KeepsTime s) ((drive l v s).mapNext f) := by
  have hdrive : Yields (KeepsTime s) (drive l v s) := by
    unfold drive
    split <;> simp [GoesOn]
  exact hdrive.mapNext fun t ht => ht.trans (hf t)

theorem sample_mapNext_keepsTime (l : BiLine) (s : State) {f : Level × State → State}
    (hf : ∀ r, KeepsTime r.2 (f r)) : Yields (KeepsTime s) ((sample l s).mapNext f) := by
  have hsample : Yields (fun r => KeepsTime s r.2) (sample l s) := by
    unfold sample
    split
    · exact (yields_next _ _).mpr (keepsTime_sampleLine l s)
    · simp
  exact hsample.mapNext fun r hr => hr.trans (hf r)

theorem pollStep_mapNext_keepsTime (l : BiLine) (v : Level) (n : Nat) (s : State) {f : Poll × State → State}
    (hf : ∀ r, KeepsTime r.2 (f r)) : Yields (KeepsTime s) ((pollStep l v n s).mapNext f) := by
  have hpoll : Yields (fun r => KeepsTime s r.2) (pollStep l v n s) := by
    unfold pollStep sample
    split
    · split
      · have hheard := keepsTime_sampleLine l s
        simp only [mapNext_next, yields_next]
        split
        · exact hheard
        · exact hheard.trans (keepsTime_setSpin _ _)
      · simp
    · simp [GoesOn]
  exact hpoll.mapNext fun r hr => hr.trans (hf r)

theorem keepsTime_nextByte (p : Params) (b : Byte) (s : State) : KeepsTime s (nextByte p b s) := by
  simp only [nextByte]
  split <;> simp [GoesOn, enterByte, enterBit]

theorem keepsTime_finishBit (p : Params) (s : State) : KeepsTime s (finishBit p s) := by
  have hbit : KeepsTime s (orBit p s.seq.sampled s.seq.bit.val s) := by simp [GoesOn]
  simp only [finishBit]
  split
  · simp [GoesOn, enterBit]
  · exact hbit.trans (keepsTime_nextByte p _ _)

theorem startStep_keepsTime (p : Params) (k : StartOp) (s : State) : Yields (KeepsTime s) (startStep p k s) := by
  cases k with
  | driveLow | driveHigh => exact drive_mapNext_keepsTime _ _ _ fun t => by simp [GoesOn]
  | toOutput | holdLow | holdHigh | release => simp [startStep, delayMs, GoesOn]

theorem checkStep_keepsTime (p : Params) (k : CheckOp) (s : State) : Yields (KeepsTime s) (checkStep p k s) := by
  cases k with
  | waitAnswer | waitHigh => simp [checkStep, GoesOn]
  | firstSample | secondSample =>
    refine sample_mapNext_keepsTime _ _ fun r => ?_
    split <;> simp [GoesOn, enterGuard]
  | guard =>
    refine pollStep_mapNext_keepsTime _ _ _ _ fun r => ?_
    split <;> simp [GoesOn, leaveCheck, enterByte, enterBit]

theorem waitHighStep_keepsTime (p : Params) (s : State) : Yields (KeepsTime s) (waitHighStep p s) := by
  refine pollStep_mapNext_keepsTime _ _ _ _ fun r => ?_
  split
  · simp [GoesOn]
  · simp [GoesOn]
  · exact keepsTime_nextByte p 0 r.2

theorem bitSampleStep_keepsTime (s : State) : Yields (KeepsTime s) (bitSampleStep s) :=
  sample_mapNext_keepsTime _ _ fun r => by simp [GoesOn]

theorem waitLowStep_keepsTime (p : Params) (s : State) : Yields (KeepsTime s) (waitLowStep p s) := by
  refine pollStep_mapNext_keepsTime _ _ _ _ fun r => ?_
  split
  · exact keepsTime_finishBit p r.2
  · simp [GoesOn]
  · exact keepsTime_nextByte p 0 r.2

theorem beginStep_keepsTime (k : BeginOp) (s : State) : Yields (KeepsTime s) (beginStep k s) := by
  cases k <;> exact drive_mapNext_keepsTime _ _ _ fun t => by simp [GoesOn]

theorem afterByte_keepsTime (p : Params) (s : State) : Yields (KeepsTime s) (afterByte p s) := by
  unfold afterByte
  split
  · simp [GoesOn]
  · split <;> simp [GoesOn]

theorem afterBit_keepsTime (p : Params) (again : Phase) (s : State) : Yields (KeepsTime s) (afterBit p again s) := by
  unfold afterBit
  split
  · simp [GoesOn]
  · exact afterByte_keepsTime p s

theorem wrBitStep_keepsTime (p : Params) (k : BitOp) (s : State) : Yields (KeepsTime s) (wrBitStep p k s) := by
  cases k with
  | turn =>
    simp only [wrBitStep]
    split <;> simp [GoesOn]
  | level | clockHigh | clockLow => exact drive_mapNext_keepsTime _ _ _ fun t => by simp [GoesOn]
  | highTime => simp [wrBitStep, GoesOn]
  | lowTime =>
    have hlow : KeepsTime s (shiftSh (delayUs p p.tClkPhaseUs s)) := by simp [GoesOn]
    exact (afterBit_keepsTime p _ _).mono fun t ht => hlow.trans ht

theorem rdBitStep_keepsTime (p : Params) (k : BitOp) (s : State) : Yields (KeepsTime s) (rdBitStep p k s) := by
  cases k with
  | level => exact sample_mapNext_keepsTime .dat (shiftAcc s) fun r => by simp [GoesOn]
  | clockHigh | clockLow => exact drive_mapNext_keepsTime _ _ _ fun t => by simp [GoesOn]
  | turn | highTime => simp [rdBitStep, GoesOn]
  | lowTime =>
    have hlow : KeepsTime s (delayUs p p.tClkPhaseUs s) := by simp [GoesOn]
    exact (afterBit_keepsTime p _ _).mono fun t ht => hlow.trans ht

/-- Of the commands `RTC.GETTIME` alone stores into a time register (R148, R150). -/
theorem storeTx_goesOn (i : Instr) (s : State) : GoesOn (i = .rtcGettime) s (storeTx i s) := by
  unfold storeTx
  split
  · simp [GoesOn, storeRdata]
  · split <;> simp [GoesOn, storeTime]
  · simp [GoesOn]

theorem endStep_goesOn (p : Params) (s : State) :
    Yields (GoesOn (running s = some .rtcGettime) s) (endStep p s) := by
  unfold endStep
  split
  · simp
  case h_2 i hrun =>
    have hdriven : KeepsTime s (driveLine .ce .low s) := by simp [GoesOn]
    have hstored := hdriven.goesOn.trans (storeTx_goesOn i (driveLine .ce .low s))
    rw [hrun, Option.some_inj]
    simp only [drive_ce, mapNext_next, yields_next]
    split
    · exact hstored.trans (by simp [GoesOn])
    · exact hstored.trans (by simp [GoesOn])

theorem endSwValidate_keepsTime (s : State) : KeepsTime s (endCommand (swValidate s)) := by
  obtain ⟨h, t, c, hvalidate⟩ := swValidate_frame s
  rw [hvalidate]
  exact ⟨rfl, List.prefix_rfl, .inr fun f => by cases f <;> rfl⟩

theorem bcdStep_keepsTime (s : State) : Yields (KeepsTime s) (bcdStep s) := by
  unfold bcdStep
  split <;> simp [GoesOn]

/-- The end of a transaction of `RTC.GETTIME`. -/
def EndsTimeRead (s : State) : Prop := s.seq.phase = .rtcEnd ∧ running s = some .rtcGettime

theorem engineStep_goesOn (p : Params) (s : State) : Yields (GoesOn (EndsTimeRead s) s) (engineStep p s) := by
  have hkeeps : ∀ {r}, Yields (KeepsTime s) r → Yields (GoesOn (EndsTimeRead s) s) r :=
    fun h => h.mono fun _ ht => ht.goesOn
  cases hphase : s.seq.phase <;> simp only [engineStep, hphase]
  case idle | swBitDelay => simp [GoesOn]
  case swStart k => exact hkeeps (startStep_keepsTime p k s)
  case swCheck k => exact hkeeps (checkStep_keepsTime p k s)
  case swBitWaitHigh => exact hkeeps (waitHighStep_keepsTime p s)
  case swBitSample => exact hkeeps (bitSampleStep_keepsTime s)
  case swBitWaitLow => exact hkeeps (waitLowStep_keepsTime p s)
  case swValidate => exact (yields_next _ _).mpr (endSwValidate_keepsTime s).goesOn
  case rtcBegin k => exact hkeeps (beginStep_keepsTime k s)
  case rtcWrBit k => exact hkeeps (wrBitStep_keepsTime p k s)
  case rtcRdBit k => exact hkeeps (rdBitStep_keepsTime p k s)
  case rtcEnd => exact (endStep_goesOn p s).mono fun _ ht => by simpa [EndsTimeRead, hphase] using ht
  case bcd => exact hkeeps (bcdStep_keepsTime s)

/-! ### Whole instructions -/

theorem exec_swRead_keepsTime (s : State) : Yields (KeepsTime s) (exec .swRead s) := by
  obtain ⟨t, es, ht, htrace, -, -, -, htime, -, -, -, -, -, -, -, -, hprobe⟩ := swReadTouchesOnlyItsOwnHalf s
  rw [ht, yields_next]
  refine ⟨hprobe, ⟨_, by rw [htrace, List.append_assoc]⟩, .inr fun f => ?_⟩
  rw [← timeReg_eq_time, ← timeReg_eq_time, htime]

theorem exec_goesOn (i : Instr) (s : State) : Yields (GoesOn (i = .rtcGettime) s) (exec i s) := by
  by_cases hi : i = .swRead
  · subst hi
    exact (exec_swRead_keepsTime s).mono fun _ ht => ht.goesOn
  · obtain ⟨t, es, ht, h⟩ := exec_transacts hi s
    rw [ht, yields_next]
    obtain ⟨-, -, hprobe⟩ := h.hostKept
    exact ⟨hprobe, ⟨es, h.trace.symm⟩, h.time.symm.imp_left And.left⟩

/-- No address byte stands for `RTC.GETTIME` (R70). -/
theorem ne_rtcGettime_of_decode_bus {a d : Byte} {i : Instr} (h : decode (.bus a d) = .ok i) : i ≠ .rtcGettime := by
  have hbuilds : ∀ r ∈ addrRows, r.build d ≠ .rtcGettime := by simp [addrRows]
  simp only [decode, decodeBus] at h
  split at h
  case h_1 r hr =>
    obtain rfl := Except.ok.inj h
    exact hbuilds r (List.mem_of_find?_eq_some hr)
  case h_2 => nomatch h

/-! ### A step -/

/-- The step runs an issued `RTC.GETTIME`. -/
def IssuesGettime (s : State) : Prop :=
  ∃ w rest, HostNext s (.issue w) rest ∧ decode (.cmd w) = .ok .rtcGettime

/-- After a step that is not reset no transaction is laid in, the trace has grown, and the time registers are as before,
or `RTC.GETTIME` has written one. -/
theorem step_goesOn {s : State} (hr : ¬ ResetNext s) :
    Yields (GoesOn (IssuesGettime s ∨ EndsTimeRead s) { s with probe := none }) (step s) := by
  obtain ⟨a, d, _, h | ⟨i, _, hd, h⟩⟩ | ⟨hp, hact⟩ := step_cases s
  · rw [h, yields_next]
    exact ⟨rfl, List.prefix_rfl, .inr fun _ => rfl⟩
  · rw [h]
    exact (exec_goesOn i _).mono fun t ht => ht.imp fun hi => absurd hi (ne_rtcGettime_of_decode_bus hd)
  -- From here on no transaction is laid in. `GoesOn` says nothing of the host's list, so that the action is consumed
  -- does not show.
  have hs : { s with probe := none } = s := by rw [← hp]
  rw [hs]
  have hengine (rest : List HostAct) : Yields (GoesOn (IssuesGettime s ∨ EndsTimeRead s) s)
      (engineStep Config.params { s with host := rest }) :=
    (engineStep_goesOn Config.params { s with host := rest }).mono fun t ht => GoesOn.imp (s := s) ht .inr
  have hsilent {t : State} (hprobe : t.probe = s.probe) (htrace : t.trace = s.trace) (hregs : t.regs = s.regs) :
      GoesOn (IssuesGettime s ∨ EndsTimeRead s) s t :=
    ⟨hprobe, htrace ▸ List.prefix_rfl, .inr fun f => by rw [hregs]⟩
  obtain ⟨_, h⟩ | ⟨rest, ⟨_, h⟩ | ⟨hh, _⟩ | ⟨n, _, h⟩ | ⟨n, w, _, h⟩ | ⟨w, i, hh, _, hd, h⟩ | ⟨w, _, h | h⟩⟩ := hact
  · rw [h]
    exact hengine s.host
  · rw [h]
    exact hengine rest
  · exact absurd ⟨rest, hp, hh⟩ hr
  · rw [h, yields_next]
    obtain ⟨w, k, d, hread⟩ := hostRead_spec Config.params n { s with host := rest }
    rw [hread]
    exact hsilent rfl rfl rfl
  · rw [h, yields_next]
    obtain hw | ⟨_, _, i, _, hw⟩ | ⟨_, _, hw⟩ := hostWrite_cases n w { s with host := rest } <;> rw [hw] <;>
      exact hsilent rfl rfl rfl
  · rw [h]
    refine (exec_goesOn i { s with host := rest }).mono fun t ht => GoesOn.imp (s := s) ht fun hi => ?_
    exact .inl ⟨w, rest, ⟨hp, hh⟩, hi ▸ hd⟩
  · rw [h, yields_next]
    exact hsilent rfl rfl rfl
  · rw [h, yields_next]
    exact hsilent rfl rfl rfl

/-- Settles O18: the trace before the step opens the trace after it. -/
theorem traceOnlyGrows : Obligations.TraceOnlyGrows := by
  intro s t hstep hr
  obtain ⟨-, ⟨es, hes⟩, -⟩ := step_goesOn hr t hstep
  exact ⟨es, hes.symm⟩

/-- Settles O17: a whole issued command, or the end of one of its transactions. -/
theorem onlyGettimeWritesTheTime : Obligations.OnlyGettimeWritesTheTime := by
  rintro s t hstep hr ⟨f, hf⟩
  obtain ⟨-, -, hwrites | hkept⟩ := step_goesOn hr t hstep
  · exact hwrites
  · rw [timeReg_eq_time, timeReg_eq_time] at hf
    exact absurd (hkept f) hf

theorem step_probe_eq_none {s t : State} (hstep : step s = .next t) : t.probe = none := by
  by_cases hr : ResetNext s
  · obtain ⟨rest, hnext⟩ := hr
    obtain rfl : resetEngine { s with host := rest } = t := by simpa [step_of_hostNext hnext, hostStep] using hstep
    rfl
  · exact (step_goesOn hr t hstep).1

/-- Settles O7: a word issued while idle runs the command it decodes to, and no step leaves a transaction laid in. -/
theorem theHostIssuesOnlyTheSixCommands : Obligations.TheHostIssuesOnlyTheSixCommands :=
  ⟨fun _ _ _ hnext hidle => step_issue_of_idle hnext hidle, fun _ _ => step_probe_eq_none⟩

end Sys2Proof.Machine
end

section
/-! SUPPORT. Proof of O13 (R14, R22, R98, R118, R151): the invariant phase by phase, as facts about the half of the engine that
the phase belongs to, and each step of the sequencer from one phase's facts to the next one's. -/

namespace Sys2Proof.Machine

open Sys2Proof Sys2Proof.Claims

/-! ### What a sample leaves alone -/

@[simp] theorem sampleLine_flags (l : BiLine) (s : State) : (sampleLine l s).2.flags = s.flags :=
  (listens_sampleLine l s).flags

@[simp] theorem sampleLine_pins (l : BiLine) (s : State) : (sampleLine l s).2.pins = s.pins :=
  (listens_sampleLine l s).pins

@[simp] theorem sampleLine_hidden (l : BiLine) (s : State) : (sampleLine l s).2.hidden = s.hidden :=
  (listens_sampleLine l s).hidden

@[simp] theorem sampleLine_seq (l : BiLine) (s : State) : (sampleLine l s).2.seq = s.seq :=
  (listens_sampleLine l s).seq

/-! ### What the parts of the invariant look at -/

theorem running_congr {s t : State} (hcmd : t.seq.cmd = s.seq.cmd) : running t = running s := by
  simp only [running, hcmd]

theorem currentTx_congr (p : Params) {s t : State} (hcmd : t.seq.cmd = s.seq.cmd) (hstep : t.seq.step = s.seq.step) :
    currentTx p t = currentTx p s := by
  simp only [currentTx, running_congr hcmd, hstep]

/-- `PRES` is a code and the time registers are in 0 to 165 (R13, R15). -/
def RegsOk (p : Params) (r : Regs) : Prop := isPresCode p r.pres = true ∧ ∀ f, (r.time f).toNat ≤ 165

theorem dataOk_iff (p : Params) (s : State) : dataOk p s = true ↔ RegsOk p s.regs ∧ respOk p s = true := by
  have htimes : (timeFields.all fun f => decide ((timeReg f s).toNat ≤ 165)) = true ↔
      ∀ f, (s.regs.time f).toNat ≤ 165 := by
    simp only [List.all_eq_true, decide_eq_true_eq, timeReg_eq_time]
    exact ⟨fun h f => h f (by cases f <;> simp [timeFields]), fun h f _ => h f⟩
  simp only [dataOk, Bool.and_eq_true, htimes, RegsOk]
  tauto

theorem busRests_iff (s : State) : busRests s = true ↔ s.pins.ceLatch = .low ∧ s.pins.clkLatch = .low := by
  simp [busRests]

theorem swReleased_iff (s : State) : swReleased s = true ↔ s.pins.swMode = .input ∧ s.pins.swLatch = .high := by
  simp [swReleased]

/-- `SW` released, `CE` and `CLK` Low. -/
def LinesRest (s : State) : Prop := busRests s = true ∧ swReleased s = true

/-! ### The invariant, phase by phase -/

/-- Between commands (R22, `IDLE`). -/
structure IdleOk (p : Params) (s : State) : Prop where
  phase : s.seq.phase = .idle
  busy : s.flags.busy = false
  lines : LinesRest s
  regs : RegsOk p s.regs

/-- While `SW.READ` runs, after its start pulse. -/
structure SwOk (p : Params) (s : State) : Prop where
  busy : s.flags.busy = true
  cmd : running s = some .swRead
  lines : LinesRest s
  regs : RegsOk p s.regs

/-- While a clock command runs: `SEQ.step` names one of its transactions. -/
structure RtcOk (p : Params) (s : State) : Prop where
  busy : s.flags.busy = true
  tx : (currentTx p s).isSome = true
  released : swReleased s = true
  regs : RegsOk p s.regs

/-- The phases of `SW.READ` after its start pulse. -/
def Phase.readsSw : Phase → Bool
  | .swCheck _ => true
  | .swBitWaitHigh => true
  | .swBitDelay => true
  | .swBitSample => true
  | .swBitWaitLow => true
  | .swValidate => true
  | _ => false

variable {p : Params} {s t : State}

theorem busyOk_of_ne_idle (hphase : s.seq.phase ≠ .idle) : busyOk s = s.flags.busy := by
  simp [busyOk, bne_iff_ne.mpr hphase]

theorem inv_idle_iff (hphase : s.seq.phase = .idle) : invWith p s = true ↔ IdleOk p s := by
  simp only [invWith, busyOk, phaseOk, dataOk_iff, respOk, hphase, Bool.and_eq_true, bne_self_eq_false, beq_iff_eq]
  exact ⟨fun ⟨⟨hb, hl⟩, hd, _⟩ => ⟨hphase, hb, hl, hd⟩, fun ⟨_, hb, hl, hd⟩ => ⟨⟨hb, hl⟩, hd, trivial⟩⟩

theorem inv_readsSw_iff (hphase : s.seq.phase.readsSw = true) :
    invWith p s = true ↔ SwOk p s ∧ respOk p s = true := by
  have hphaseOk : phaseOk p s = (running s == some .swRead && busRests s && swReleased s) := by
    cases h : s.seq.phase <;> simp_all [phaseOk, Phase.readsSw]
  have hbusyOk : busyOk s = s.flags.busy :=
    busyOk_of_ne_idle fun h => by simp [h, Phase.readsSw] at hphase
  simp only [invWith, dataOk_iff, hphaseOk, hbusyOk, Bool.and_eq_true, beq_iff_eq]
  exact ⟨fun ⟨⟨hb, ⟨hc, hr⟩, hs⟩, hd, hresp⟩ => ⟨⟨hb, hc, ⟨hr, hs⟩, hd⟩, hresp⟩,
    fun ⟨⟨hb, hc, ⟨hr, hs⟩, hd⟩, hresp⟩ => ⟨⟨hb, ⟨hc, hr⟩, hs⟩, hd, hresp⟩⟩

theorem inv_swStart_iff {k : StartOp} (hphase : s.seq.phase = .swStart k) : invWith p s = true ↔
    s.flags.busy = true ∧ running s = some .swRead ∧ busRests s = true ∧ startLineOk k s = true ∧ RegsOk p s.regs := by
  simp [invWith, busyOk_of_ne_idle (s := s) (by simp [hphase]), phaseOk, dataOk_iff, respOk, hphase, and_assoc]

theorem inv_rtcBegin_iff {k : BeginOp} (hphase : s.seq.phase = .rtcBegin k) :
    invWith p s = true ↔ RtcOk p s ∧ busRests s = true := by
  simp only [invWith, busyOk, phaseOk, dataOk_iff, respOk, hphase, Bool.and_eq_true, inTransaction, beq_iff_eq]
  exact ⟨fun ⟨⟨hb, ⟨ht, hr⟩, hs⟩, hd, _⟩ => ⟨⟨hb, ht, hs, hd⟩, hr⟩,
    fun ⟨⟨hb, ht, hs, hd⟩, hr⟩ => ⟨⟨hb, ⟨ht, hr⟩, hs⟩, hd, trivial⟩⟩

theorem inv_rtcWrBit_iff {k : BitOp} (hphase : s.seq.phase = .rtcWrBit k) : invWith p s = true ↔
    RtcOk p s ∧ (outByte p s).isSome = true ∧ s.pins.ceLatch = .high ∧ clkOk k s = true ∧ turnOk k s = true ∧
      (k = .turn ∨ s.pins.datMode = .output) := by
  simp only [invWith, busyOk, phaseOk, dataOk_iff, respOk, hphase, Bool.and_eq_true, inTransaction, beq_iff_eq,
    Bool.or_eq_true]
  exact ⟨fun ⟨⟨hb, ⟨⟨⟨⟨⟨ht, ho⟩, hce⟩, hclk⟩, hturn⟩, hdat⟩, hs⟩, hd, _⟩ =>
      ⟨⟨hb, ht, hs, hd⟩, ho, hce, hclk, hturn, hdat⟩,
    fun ⟨⟨hb, ht, hs, hd⟩, ho, hce, hclk, hturn, hdat⟩ =>
      ⟨⟨hb, ⟨⟨⟨⟨⟨ht, ho⟩, hce⟩, hclk⟩, hturn⟩, hdat⟩, hs⟩, hd, trivial⟩⟩

theorem inRead_iff : inRead p s = true ↔ ∃ a, currentTx p s = some (.read a) := by
  unfold inRead
  split <;> simp_all

theorem inRead_congr (hcmd : t.seq.cmd = s.seq.cmd) (hstep : t.seq.step = s.seq.step) : inRead p t = inRead p s := by
  simp only [inRead, currentTx_congr p hcmd hstep]

theorem inv_rtcRdBit_iff {k : BitOp} (hphase : s.seq.phase = .rtcRdBit k) : invWith p s = true ↔
    RtcOk p s ∧ inRead p s = true ∧ s.seq.txByte = .data ∧ s.pins.ceLatch = .high ∧ clkOk k s = true ∧
      turnOk k s = true ∧ (k = .turn ∨ s.pins.datMode = .input) := by
  simp only [invWith, busyOk, phaseOk, dataOk_iff, respOk, hphase, Bool.and_eq_true, beq_iff_eq, Bool.or_eq_true]
  refine ⟨fun ⟨⟨hb, ⟨⟨⟨⟨⟨hr, ho⟩, hce⟩, hclk⟩, hturn⟩, hdat⟩, hs⟩, hd, _⟩ => ?_,
    fun ⟨⟨hb, ht, hs, hd⟩, hr, ho, hce, hclk, hturn, hdat⟩ =>
      ⟨⟨hb, ⟨⟨⟨⟨⟨hr, ho⟩, hce⟩, hclk⟩, hturn⟩, hdat⟩, hs⟩, hd, trivial⟩⟩
  obtain ⟨a, ha⟩ := inRead_iff.mp hr
  exact ⟨⟨hb, by simp [ha], hs, hd⟩, hr, ho, hce, hclk, hturn, hdat⟩

theorem inv_rtcEnd_iff (hphase : s.seq.phase = .rtcEnd) : invWith p s = true ↔
    RtcOk p s ∧ s.seq.txByte = .data ∧ s.pins.ceLatch = .high ∧ s.pins.clkLatch = .low := by
  simp only [invWith, busyOk, phaseOk, dataOk_iff, respOk, hphase, Bool.and_eq_true, inTransaction, beq_iff_eq]
  exact ⟨fun ⟨⟨hb, ⟨⟨⟨ht, ho⟩, hce⟩, hclk⟩, hs⟩, hd, _⟩ => ⟨⟨hb, ht, hs, hd⟩, ho, hce, hclk⟩,
    fun ⟨⟨hb, ht, hs, hd⟩, ho, hce, hclk⟩ => ⟨⟨hb, ⟨⟨⟨ht, ho⟩, hce⟩, hclk⟩, hs⟩, hd, trivial⟩⟩

theorem inBcd_iff : inBcd s = true ↔ ∃ b, running s = some (.bcdDec b) := by
  unfold inBcd
  split <;> simp_all

theorem inv_bcd_iff (hphase : s.seq.phase = .bcd) : invWith p s = true ↔
    s.flags.busy = true ∧ (∃ b, running s = some (.bcdDec b)) ∧ LinesRest s ∧ RegsOk p s.regs := by
  simp only [invWith, busyOk, phaseOk, dataOk_iff, respOk, hphase, Bool.and_eq_true, inBcd_iff, beq_iff_eq]
  exact ⟨fun ⟨⟨hb, ⟨hc, hr⟩, hs⟩, hd, _⟩ => ⟨hb, hc, ⟨hr, hs⟩, hd⟩,
    fun ⟨hb, hc, ⟨hr, hs⟩, hd⟩ => ⟨⟨hb, ⟨hc, hr⟩, hs⟩, hd, trivial⟩⟩

/-! ### The facts of a half of the engine along an update -/

theorem SwOk.congr (h : SwOk p s) (hflags : t.flags = s.flags) (hpins : t.pins = s.pins)
    (hcmd : t.seq.cmd = s.seq.cmd) (hregs : RegsOk p s.regs → RegsOk p t.regs) : SwOk p t := by
  obtain ⟨hbusy, hrun, hlines, hok⟩ := h
  refine ⟨by rw [hflags, hbusy], by rw [running_congr hcmd, hrun], ?_, hregs hok⟩
  simpa only [LinesRest, busRests, swReleased, hpins] using hlines

theorem RtcOk.congr (h : RtcOk p s) (hflags : t.flags = s.flags)
    (hmode : t.pins.swMode = s.pins.swMode) (hlatch : t.pins.swLatch = s.pins.swLatch)
    (hcmd : t.seq.cmd = s.seq.cmd) (hstep : t.seq.step = s.seq.step) (hregs : t.regs = s.regs) : RtcOk p t := by
  obtain ⟨hbusy, htx, hsw, hok⟩ := h
  refine ⟨by rw [hflags, hbusy], by rw [currentTx_congr p hcmd hstep, htx], ?_, hregs ▸ hok⟩
  simpa only [swReleased, hmode, hlatch] using hsw

/-- The result is a next state, with the invariant. -/
def GoesOnInv (p : Params) (r : Result State) : Prop := ∃ t, r = .next t ∧ invWith p t = true

@[simp] theorem goesOnInv_next : GoesOnInv p (.next t) ↔ invWith p t = true := by simp [GoesOnInv]

/-! ### The single-wire phases -/

theorem startStep_inv {k : StartOp} (hphase : s.seq.phase = .swStart k) (h : invWith p s = true) :
    GoesOnInv p (startStep p k s) := by
  obtain ⟨hbusy, hrun, hrests, hline, hregs⟩ := (inv_swStart_iff hphase).mp h
  cases k with
  | toOutput =>
    refine goesOnInv_next.mpr ((inv_swStart_iff rfl).mpr ⟨hbusy, hrun, hrests, ?_, hregs⟩)
    simp_all [startLineOk, swReleased]
  | driveLow | driveHigh =>
    have hmode : modeOf .sw s = .output := by simp_all [startLineOk, modeOf]
    rw [startStep, drive_of_output hmode, mapNext_next]
    refine goesOnInv_next.mpr ((inv_swStart_iff rfl).mpr ⟨hbusy, hrun, hrests, ?_, hregs⟩)
    simp_all [startLineOk]
  | holdLow | holdHigh => exact goesOnInv_next.mpr ((inv_swStart_iff rfl).mpr ⟨hbusy, hrun, hrests, hline, hregs⟩)
  | release =>
    refine goesOnInv_next.mpr ((inv_readsSw_iff rfl).mpr ⟨⟨hbusy, hrun, ⟨hrests, ?_⟩, hregs⟩, rfl⟩)
    simp_all [startLineOk, swReleased]

theorem SwOk.sampleLine (h : SwOk p s) : SwOk p (sampleLine .sw s).2 :=
  h.congr (by simp) (by simp) (by simp) (by simp)

theorem SwOk.modeOf_sw (h : SwOk p s) : modeOf BiLine.sw.line s = .input := ((swReleased_iff s).mp h.lines.2).1

/-- A checked sample of `SW`, then an update. -/
theorem sample_goesOnInv (h : SwOk p s) {f : Level × State → State}
    (hf : ∀ v t, SwOk p t → t.seq = s.seq → invWith p (f (v, t)) = true) :
    GoesOnInv p ((sample .sw s).mapNext f) := by
  rw [sample_of_input h.modeOf_sw, mapNext_next, goesOnInv_next]
  exact hf (sampleLine .sw s).1 (sampleLine .sw s).2 h.sampleLine (sampleLine_seq .sw s)

/-- A turn of a spin-wait on `SW`, then what each of its outcomes leads to. -/
theorem pollStep_goesOnInv (h : SwOk p s) {v : Level} {n : Nat} {f : Poll × State → State}
    (hreached : ∀ t, SwOk p t → t.seq = s.seq → invWith p (f (.reached, t)) = true)
    (hagain : ∀ t, SwOk p t → t.seq = { s.seq with spin := s.seq.spin + 1 } → invWith p (f (.again, t)) = true)
    (hexhausted : invWith p (f (.exhausted, s)) = true) : GoesOnInv p ((pollStep .sw v n s).mapNext f) := by
  obtain ⟨_, hpoll⟩ | ⟨_, _, hpoll⟩ | ⟨_, _, hpoll⟩ := pollStep_cases (v := v) (n := n) h.modeOf_sw <;>
    rw [hpoll, mapNext_next, goesOnInv_next]
  · exact hexhausted
  · exact hreached _ h.sampleLine (by simp)
  · exact hagain _ (h.congr (by simp) (by simp) (by simp) (by simp)) (by simp)

theorem enterGuard_inv (h : SwOk p s) {c : Byte} (hc : isPresCode p c = true) : invWith p (enterGuard c s) = true :=
  (inv_readsSw_iff rfl).mpr ⟨h.congr rfl rfl rfl id, hc⟩

theorem leaveCheck_inv (h : SwOk p s) {c : Byte} (hc : isPresCode p c = true) : invWith p (leaveCheck c s) = true :=
  (inv_readsSw_iff rfl).mpr ⟨h.congr rfl rfl rfl fun hok => ⟨hc, fun f => by simpa [leaveCheck] using hok.2 f⟩, rfl⟩

theorem regsOk_setFrame (k : FrameIx) (b : Byte) (h : RegsOk p s.regs) : RegsOk p (setFrame k b s).regs :=
  ⟨by simpa using h.1, fun f => by simpa using h.2 f⟩

theorem nextByte_inv (h : SwOk p s) (b : Byte) : invWith p (nextByte p b s) = true := by
  have hstored : SwOk p (setFrame s.seq.byte b s) := h.congr (by simp) (by simp) (by simp) (regsOk_setFrame _ b)
  simp only [nextByte]
  generalize setFrame s.seq.byte b s = u at hstored ⊢
  split
  · exact (inv_readsSw_iff rfl).mpr ⟨hstored.congr rfl rfl rfl id, rfl⟩
  · exact (inv_readsSw_iff rfl).mpr ⟨hstored.congr rfl rfl rfl id, rfl⟩

theorem finishBit_inv (h : SwOk p s) : invWith p (finishBit p s) = true := by
  have hbit : SwOk p (orBit p s.seq.sampled s.seq.bit.val s) := h.congr rfl rfl rfl id
  simp only [finishBit]
  split
  · exact (inv_readsSw_iff rfl).mpr ⟨h.congr rfl rfl rfl id, rfl⟩
  · exact nextByte_inv hbit _

theorem checkStep_inv {k : CheckOp} (hphase : s.seq.phase = .swCheck k) (h : invWith p s = true) :
    GoesOnInv p (checkStep p k s) := by
  obtain ⟨hsw, hresp⟩ := (inv_readsSw_iff (by rw [hphase]; rfl)).mp h
  cases k with
  | waitAnswer =>
    exact goesOnInv_next.mpr ((inv_readsSw_iff rfl).mpr
      ⟨hsw.congr rfl rfl rfl id, show isPresCode p p.presNone = true by simp [isPresCode]⟩)
  | firstSample =>
    simp only [respOk, hphase] at hresp
    refine sample_goesOnInv hsw fun v t ht hseq => ?_
    cases v with
    | low => exact (inv_readsSw_iff rfl).mpr ⟨ht.congr rfl rfl rfl id, by simpa [respOk, hseq] using hresp⟩
    | high => exact enterGuard_inv ht hresp
  | waitHigh =>
    simp only [respOk, hphase] at hresp
    exact goesOnInv_next.mpr ((inv_readsSw_iff rfl).mpr ⟨hsw.congr rfl rfl rfl id, hresp⟩)
  | secondSample =>
    refine sample_goesOnInv hsw fun v t ht _ => ?_
    cases v with
    | low => exact enterGuard_inv ht (by simp [isPresCode])
    | high => exact enterGuard_inv ht (by simp [isPresCode])
  | guard =>
    simp only [respOk, hphase] at hresp
    refine pollStep_goesOnInv hsw (fun t ht _ => leaveCheck_inv ht hresp) (fun t ht hseq => ?_)
      (leaveCheck_inv hsw (by simp [isPresCode]))
    exact (inv_readsSw_iff (by simp [hseq, hphase, Phase.readsSw])).mpr ⟨ht, by simpa [respOk, hseq, hphase] using hresp⟩

theorem waitHighStep_inv (hphase : s.seq.phase = .swBitWaitHigh) (h : invWith p s = true) :
    GoesOnInv p (waitHighStep p s) := by
  obtain ⟨hsw, -⟩ := (inv_readsSw_iff (by rw [hphase]; rfl)).mp h
  refine pollStep_goesOnInv hsw (fun t ht _ => ?_) (fun t ht hseq => ?_) (nextByte_inv hsw 0)
  · exact (inv_readsSw_iff rfl).mpr ⟨ht.congr rfl rfl rfl id, rfl⟩
  · exact (inv_readsSw_iff (by simp [hseq, hphase, Phase.readsSw])).mpr ⟨ht, by simp [respOk, hseq, hphase]⟩

theorem bitSampleStep_inv (hphase : s.seq.phase = .swBitSample) (h : invWith p s = true) :
    GoesOnInv p (bitSampleStep s) := by
  obtain ⟨hsw, -⟩ := (inv_readsSw_iff (by rw [hphase]; rfl)).mp h
  exact sample_goesOnInv hsw fun v t ht _ => (inv_readsSw_iff rfl).mpr ⟨ht.congr rfl rfl rfl id, rfl⟩

theorem waitLowStep_inv (hphase : s.seq.phase = .swBitWaitLow) (h : invWith p s = true) :
    GoesOnInv p (waitLowStep p s) := by
  obtain ⟨hsw, -⟩ := (inv_readsSw_iff (by rw [hphase]; rfl)).mp h
  refine pollStep_goesOnInv hsw (fun t ht _ => finishBit_inv ht) (fun t ht hseq => ?_) (nextByte_inv hsw 0)
  exact (inv_readsSw_iff (by simp [hseq, hphase, Phase.readsSw])).mpr ⟨ht, by simp [respOk, hseq, hphase]⟩

@[simp] theorem time_reading_update (r : Regs) (h t : Byte) (f : TimeField) :
    Regs.time { r with hum := h, temp := t } f = r.time f := by
  cases f <;> rfl

theorem regsOk_endSwValidate (h : RegsOk p s.regs) : RegsOk p (endCommand (swValidate s)).regs := by
  obtain ⟨_, _, _, hvalidate⟩ := swValidate_frame s
  rw [hvalidate]
  exact ⟨h.1, fun f => by simpa using h.2 f⟩

theorem validateStep_inv (hphase : s.seq.phase = .swValidate) (h : invWith p s = true) :
    invWith p (endCommand (swValidate s)) = true := by
  obtain ⟨hsw, -⟩ := (inv_readsSw_iff (by rw [hphase]; rfl)).mp h
  have hpins : (swValidate s).pins = s.pins := by
    obtain ⟨_, _, _, hvalidate⟩ := swValidate_frame s
    rw [hvalidate]
  refine (inv_idle_iff rfl).mpr ⟨rfl, rfl, ?_, regsOk_endSwValidate hsw.regs⟩
  simpa [LinesRest, busRests, swReleased, hpins] using hsw.lines

/-! ### The three-wire phases -/

/-- The address byte of a transaction goes out, whatever the transaction. -/
theorem outByte_isSome_of_address (htx : s.seq.txByte = .address) (h : (currentTx p s).isSome = true) :
    (outByte p s).isSome = true := by
  obtain ⟨tx, htx'⟩ := Option.isSome_iff_exists.mp h
  simp [outByte, htx, htx']

/-- The data byte of a write goes out. -/
theorem outByte_isSome_of_write {a v : Byte} (htx : s.seq.txByte = .data) (h : currentTx p s = some (.write a v)) :
    (outByte p s).isSome = true := by
  simp [outByte, htx, h]

theorem beginStep_inv {k : BeginOp} (hphase : s.seq.phase = .rtcBegin k) (h : invWith p s = true) :
    GoesOnInv p (beginStep k s) := by
  obtain ⟨hrtc, hrests⟩ := (inv_rtcBegin_iff hphase).mp h
  obtain ⟨hce, hclk⟩ := (busRests_iff s).mp hrests
  cases k with
  | clockLow =>
    refine goesOnInv_next.mpr ((inv_rtcBegin_iff rfl).mpr ⟨hrtc.congr rfl rfl rfl rfl rfl rfl, ?_⟩)
    exact (busRests_iff _).mpr ⟨hce, rfl⟩
  | enableHigh =>
    have hnext : RtcOk p (setTxByte .address (driveLine .ce .high s)) := hrtc.congr rfl rfl rfl rfl rfl rfl
    refine goesOnInv_next.mpr ((inv_rtcWrBit_iff rfl).mpr
      ⟨hnext.congr rfl rfl rfl rfl rfl rfl, ?_, rfl, by simpa [clkOk] using hclk, rfl, .inl rfl⟩)
    exact outByte_isSome_of_address (s := setTxByte .address (driveLine .ce .high s)) rfl hnext.tx

/-- Between two bits: a clock command runs, `CE` is High and `CLK` Low. -/
structure BetweenBits (p : Params) (s : State) : Prop where
  rtc : RtcOk p s
  ce : s.pins.ceLatch = .high
  clk : s.pins.clkLatch = .low

theorem afterByte_inv (h : BetweenBits p s) : GoesOnInv p (afterByte p s) := by
  obtain ⟨hrtc, hce, hclk⟩ := h
  unfold afterByte
  split
  case h_1 hdata =>
    exact goesOnInv_next.mpr ((inv_rtcEnd_iff rfl).mpr ⟨hrtc.congr rfl rfl rfl rfl rfl rfl, hdata, hce, hclk⟩)
  case h_2 =>
    split
    case h_1 a v htx =>
      refine goesOnInv_next.mpr ((inv_rtcWrBit_iff rfl).mpr
        ⟨hrtc.congr rfl rfl rfl rfl rfl rfl, ?_, hce, by simpa [clkOk] using hclk, rfl, .inl rfl⟩)
      exact outByte_isSome_of_write rfl htx
    case h_2 a htx =>
      refine goesOnInv_next.mpr ((inv_rtcRdBit_iff rfl).mpr
        ⟨hrtc.congr rfl rfl rfl rfl rfl rfl, ?_, rfl, hce, by simpa [clkOk] using hclk, rfl, .inl rfl⟩)
      exact inRead_iff.mpr ⟨a, htx⟩
    case h_3 htx => simpa [htx] using hrtc.tx

theorem afterBit_inv {again : Phase} (h : BetweenBits p s)
    (hagain : invWith p (goto again (setBit (s.seq.bit + 1) s)) = true) : GoesOnInv p (afterBit p again s) := by
  unfold afterBit
  split
  · exact goesOnInv_next.mpr hagain
  · exact afterByte_inv h

theorem wrBitStep_inv {k : BitOp} (hphase : s.seq.phase = .rtcWrBit k) (h : invWith p s = true) :
    GoesOnInv p (wrBitStep p k s) := by
  obtain ⟨hrtc, hout, hce, hclk, -, hdat⟩ := (inv_rtcWrBit_iff hphase).mp h
  cases k with
  | turn =>
    obtain ⟨b, hb⟩ := Option.isSome_iff_exists.mp hout
    simp only [wrBitStep, hb]
    exact goesOnInv_next.mpr ((inv_rtcWrBit_iff rfl).mpr
      ⟨hrtc.congr rfl rfl rfl rfl rfl rfl, hout, hce, hclk, rfl, .inr rfl⟩)
  | level =>
    have hmode : modeOf .dat s = .output := hdat.resolve_left (by decide)
    rw [wrBitStep, drive_of_output hmode, mapNext_next]
    exact goesOnInv_next.mpr ((inv_rtcWrBit_iff rfl).mpr
      ⟨hrtc.congr rfl rfl rfl rfl rfl rfl, hout, hce, hclk, rfl, .inr hmode⟩)
  | clockHigh | clockLow =>
    have hmode : s.pins.datMode = .output := hdat.resolve_left (by decide)
    exact goesOnInv_next.mpr ((inv_rtcWrBit_iff rfl).mpr
      ⟨hrtc.congr rfl rfl rfl rfl rfl rfl, hout, hce, by simp [clkOk], rfl, .inr hmode⟩)
  | highTime =>
    have hmode : s.pins.datMode = .output := hdat.resolve_left (by decide)
    exact goesOnInv_next.mpr ((inv_rtcWrBit_iff rfl).mpr
      ⟨hrtc.congr rfl rfl rfl rfl rfl rfl, hout, hce, by simpa [clkOk] using hclk, rfl, .inr hmode⟩)
  | lowTime =>
    have hmode : s.pins.datMode = .output := hdat.resolve_left (by decide)
    refine afterBit_inv ⟨hrtc.congr rfl rfl rfl rfl rfl rfl, hce, by simpa [clkOk] using hclk⟩ ?_
    exact (inv_rtcWrBit_iff rfl).mpr ⟨hrtc.congr rfl rfl rfl rfl rfl rfl, hout, hce, hclk, rfl, .inr hmode⟩

theorem rdBitStep_inv {k : BitOp} (hphase : s.seq.phase = .rtcRdBit k) (h : invWith p s = true) :
    GoesOnInv p (rdBitStep p k s) := by
  obtain ⟨hrtc, hread, hdata, hce, hclk, -, hdat⟩ := (inv_rtcRdBit_iff hphase).mp h
  cases k with
  | turn =>
    exact goesOnInv_next.mpr ((inv_rtcRdBit_iff rfl).mpr
      ⟨hrtc.congr rfl rfl rfl rfl rfl rfl, hread, hdata, hce, hclk, rfl, .inr rfl⟩)
  | level =>
    have hmode : modeOf BiLine.dat.line (shiftAcc s) = .input := hdat.resolve_left (by decide)
    have hheard : RtcOk p (sampleLine .dat (shiftAcc s)).2 :=
      hrtc.congr (by simp) (by simp) (by simp) (by simp) (by simp) (by simp)
    have hpins : (sampleLine .dat (shiftAcc s)).2.pins = s.pins := by simp
    have hseq : (sampleLine .dat (shiftAcc s)).2.seq = s.seq := by simp
    rw [rdBitStep, sample_of_input hmode, mapNext_next]
    generalize sampleLine .dat (shiftAcc s) = r at hheard hpins hseq
    refine goesOnInv_next.mpr ((inv_rtcRdBit_iff rfl).mpr
      ⟨hheard.congr rfl rfl rfl rfl rfl rfl, ?_, ?_, ?_, ?_, rfl, .inr ?_⟩)
    · exact (inRead_congr (by simp [hseq]) (by simp [hseq])).trans hread
    · simpa [hseq] using hdata
    · simpa [hpins] using hce
    · simpa [clkOk, hpins] using hclk
    · exact (congrArg Pins.datMode hpins).trans hmode
  | clockHigh | clockLow =>
    have hmode : s.pins.datMode = .input := hdat.resolve_left (by decide)
    exact goesOnInv_next.mpr ((inv_rtcRdBit_iff rfl).mpr
      ⟨hrtc.congr rfl rfl rfl rfl rfl rfl, hread, hdata, hce, by simp [clkOk], rfl, .inr hmode⟩)
  | highTime =>
    have hmode : s.pins.datMode = .input := hdat.resolve_left (by decide)
    exact goesOnInv_next.mpr ((inv_rtcRdBit_iff rfl).mpr
      ⟨hrtc.congr rfl rfl rfl rfl rfl rfl, hread, hdata, hce, by simpa [clkOk] using hclk, rfl, .inr hmode⟩)
  | lowTime =>
    have hmode : s.pins.datMode = .input := hdat.resolve_left (by decide)
    refine afterBit_inv ⟨hrtc.congr rfl rfl rfl rfl rfl rfl, hce, by simpa [clkOk] using hclk⟩ ?_
    exact (inv_rtcRdBit_iff rfl).mpr ⟨hrtc.congr rfl rfl rfl rfl rfl rfl, hread, hdata, hce, hclk, rfl, .inr hmode⟩

/-! ### The end of a transaction -/

theorem setTime_time (g : TimeField) (b : Byte) (s : State) (f : TimeField) :
    (setTime g b s).regs.time f = if f = g then b else s.regs.time f := by
  cases g <;> cases f <;> rfl

theorem setTime_pres (g : TimeField) (b : Byte) (s : State) : (setTime g b s).regs.pres = s.regs.pres := by
  cases g <;> rfl

/-- What a transaction stores in a time register is a decoded byte, at most 165 (R170). -/
theorem regsOk_storeTx (i : Instr) (h : RegsOk p s.regs) : RegsOk p (storeTx i s).regs := by
  obtain ⟨hpres, htime⟩ := h
  unfold storeTx
  split
  · exact ⟨hpres, fun f => by simpa [storeRdata] using htime f⟩
  · split
    case h_1 g _ =>
      refine ⟨by rwa [storeTime, setTime_pres], fun f => ?_⟩
      rw [storeTime, setTime_time]
      split
      · exact bcdDec_toNat_le _
      · exact htime f
    · exact ⟨hpres, htime⟩
  · exact ⟨hpres, htime⟩

@[simp] theorem storeTx_flags (i : Instr) (s : State) : (storeTx i s).flags = s.flags := by
  unfold storeTx
  split
  · rfl
  · split <;> simp [storeTime]
  · rfl

@[simp] theorem storeTx_pins (i : Instr) (s : State) : (storeTx i s).pins = s.pins := by
  unfold storeTx
  split
  · rfl
  · split <;> simp [storeTime]
  · rfl

@[simp] theorem storeTx_seq (i : Instr) (s : State) : (storeTx i s).seq = s.seq := by
  unfold storeTx
  split
  · rfl
  · split <;> simp [storeTime]
  · rfl

/-- A command makes at most nine transactions, as many as `SEQ.step` counts (R21). -/
theorem length_txs_le (p : Params) (i : Instr) : (txs p i).length ≤ 9 := by
  cases i with
  | rtcInit =>
    have hlength : (txs p .rtcInit).length = (initPairs p).length := by
      rw [← initWrites_eq_initPairs]
      exact List.length_map _
    rw [hlength, length_initPairs]
    split <;> decide
  | rtcWrreg | rtcRdreg => exact (by decide : 1 ≤ 9)
  | rtcGettime => exact (by decide : 6 ≤ 9)
  | _ => exact Nat.zero_le 9

theorem val_succ_of_lt {n : Nat} {k : Fin (n + 1)} (h : k.val + 1 < n + 1) : (k + 1).val = k.val + 1 :=
  Fin.val_add_one_of_lt' h

theorem endStep_inv (hphase : s.seq.phase = .rtcEnd) (h : invWith p s = true) : GoesOnInv p (endStep p s) := by
  obtain ⟨⟨hbusy, htx, hsw, hregs⟩, -, -, hclk⟩ := (inv_rtcEnd_iff hphase).mp h
  obtain ⟨i, hrun⟩ : ∃ i, running s = some i := by
    cases hrun : running s with
    | none => simp [currentTx, hrun] at htx
    | some i => exact ⟨i, rfl⟩
  have hstored : RegsOk p (storeTx i (driveLine .ce .low s)).regs := regsOk_storeTx i hregs
  have hpins : (storeTx i (driveLine .ce .low s)).pins = { s.pins with ceLatch := .low } := by simp
  have hflags : (storeTx i (driveLine .ce .low s)).flags = s.flags := by simp
  have hseq : (storeTx i (driveLine .ce .low s)).seq = s.seq := by simp
  have hlength := length_txs_le p i
  simp only [endStep, hrun, drive_ce, mapNext_next]
  generalize storeTx i (driveLine .ce .low s) = u at hstored hpins hflags hseq
  have hrests : busRests u = true := by simp [busRests, hpins, hclk]
  have hreleased : swReleased u = true := by simpa [swReleased, hpins] using hsw
  split
  case isTrue hmore =>
    have hstep : (u.seq.step + 1).val = u.seq.step.val + 1 := val_succ_of_lt (by omega)
    refine goesOnInv_next.mpr ((inv_rtcBegin_iff rfl).mpr ⟨⟨?_, ?_, hreleased, hstored⟩, hrests⟩)
    · simpa [hflags] using hbusy
    · have hnext : running (goto (.rtcBegin .clockLow) (setStep (u.seq.step + 1) u)) = some i :=
        (running_congr (by simp [hseq])).trans hrun
      simp [currentTx, hnext, hstep, hmore]
  case isFalse => exact goesOnInv_next.mpr ((inv_idle_iff rfl).mpr ⟨rfl, rfl, ⟨hrests, hreleased⟩, hstored⟩)

theorem bcdStep_inv (hphase : s.seq.phase = .bcd) (h : invWith p s = true) : GoesOnInv p (bcdStep s) := by
  obtain ⟨-, ⟨b, hrun⟩, hlines, hregs⟩ := (inv_bcd_iff hphase).mp h
  simp only [bcdStep, hrun]
  exact goesOnInv_next.mpr ((inv_idle_iff rfl).mpr ⟨rfl, rfl, hlines, hregs.1, fun f => by simpa using hregs.2 f⟩)

/-- From a state with the invariant the sequencer goes on, and keeps it. -/
theorem engineStep_inv (h : invWith p s = true) : GoesOnInv p (engineStep p s) := by
  cases hphase : s.seq.phase <;> simp only [engineStep, hphase]
  case idle => exact goesOnInv_next.mpr h
  case swStart k => exact startStep_inv hphase h
  case swCheck k => exact checkStep_inv hphase h
  case swBitWaitHigh => exact waitHighStep_inv hphase h
  case swBitDelay =>
    obtain ⟨hsw, -⟩ := (inv_readsSw_iff (by rw [hphase]; rfl)).mp h
    exact goesOnInv_next.mpr ((inv_readsSw_iff rfl).mpr ⟨hsw.congr rfl rfl rfl id, rfl⟩)
  case swBitSample => exact bitSampleStep_inv hphase h
  case swBitWaitLow => exact waitLowStep_inv hphase h
  case swValidate => exact goesOnInv_next.mpr (validateStep_inv hphase h)
  case rtcBegin k => exact beginStep_inv hphase h
  case rtcWrBit k => exact wrBitStep_inv hphase h
  case rtcRdBit k => exact rdBitStep_inv hphase h
  case rtcEnd => exact endStep_inv hphase h
  case bcd => exact bcdStep_inv hphase h

/-! ### A step of the machine -/

theorem idleOk_of_not_busy (h : invWith p s = true) (hidle : s.flags.busy = false) : IdleOk p s := by
  have hphase : s.seq.phase = .idle := by
    by_contra hne
    simp [invWith, busyOk_of_ne_idle hne, hidle] at h
  exact (inv_idle_iff hphase).mp h

/-- `SW.READ` run whole ends idle, `SW` released, with a code in `PRES`. -/
theorem exec_swRead_inv (h : IdleOk Config.params s) : GoesOnInv Config.params (exec .swRead s) := by
  obtain ⟨t, es, ht, -, -, hpins, hpres, htime, -, -, -, hbusy, -, hphase, -⟩ := swReadTouchesOnlyItsOwnHalf s
  obtain ⟨-, -, ⟨hrests, -⟩, -, hregs⟩ := h
  refine ⟨t, ht, (inv_idle_iff hphase).mpr ⟨hphase, hbusy, ⟨?_, ?_⟩, hpres, fun f => ?_⟩⟩
  · simpa [busRests, hpins] using hrests
  · simp [swReleased, hpins]
  · rw [← timeReg_eq_time, htime, timeReg_eq_time]
    exact hregs f

/-- Every other instruction run whole leaves the three wires at rest and `SW` alone. -/
theorem exec_inv (i : Instr) (h : IdleOk Config.params s) : GoesOnInv Config.params (exec i s) := by
  by_cases hi : i = .swRead
  · subst hi
    exact exec_swRead_inv h
  obtain ⟨t, es, ht, hexec⟩ := exec_transacts hi s
  obtain ⟨hphase, hbusy, hlines, hpres, htime⟩ := h
  obtain ⟨hbusy', hphase'⟩ : t.flags.busy = false ∧ t.seq.phase = .idle := by
    obtain h | ⟨hflags, hseq⟩ := hexec.idle
    · exact h
    · exact ⟨by rw [hflags, hbusy], by rw [hseq, hphase]⟩
  refine ⟨t, ht, (inv_idle_iff hphase').mpr ⟨hphase', hbusy', ?_, by rwa [hexec.pres], fun f => ?_⟩⟩
  · obtain hpins | ⟨m, v, hpins⟩ := hexec.pins
    · simpa [LinesRest, busRests, swReleased, hpins] using hlines
    · exact ⟨by simp [busRests, hpins, restedPins], by simpa [swReleased, hpins, restedPins] using hlines.2⟩
  · obtain hsame | ⟨-, hdecoded⟩ := hexec.time
    · rw [hsame]
      exact htime f
    · obtain ⟨r, hr⟩ := hdecoded f
      rw [hr]
      exact bcdDec_toNat_le r

/-- An accepted command stands at its first phase with the lines at rest. -/
theorem acceptCommand_inv {w : Word24} {i : Instr} (hd : decodeCmd w = .ok i) (h : IdleOk p s) :
    invWith p (acceptCommand w i s) = true := by
  obtain ⟨-, -, ⟨hrests, hreleased⟩, hregs⟩ := h
  have hrun : running (acceptCommand w i s) = some i := by simp [running, acceptCommand, hd]
  have htx : currentTx p (acceptCommand w i s) = (txs p i)[0]? := by
    rw [currentTx, hrun]
    rfl
  have hrtc (htxs : txs p i ≠ []) : RtcOk p (acceptCommand w i s) :=
    ⟨rfl, by rw [htx]; simpa [List.length_pos_iff] using htxs, hreleased, hregs⟩
  obtain ⟨-, rfl⟩ | ⟨-, rfl⟩ | ⟨-, rfl⟩ | ⟨-, rfl⟩ | ⟨-, rfl⟩ | ⟨-, rfl⟩ := decodeCmd_ok_cases hd
  · exact (inv_swStart_iff (k := .toOutput) rfl).mpr ⟨rfl, hrun, hrests, hreleased, hregs⟩
  · exact (inv_rtcBegin_iff rfl).mpr ⟨hrtc (List.cons_ne_nil _ _), hrests⟩
  · exact (inv_rtcBegin_iff rfl).mpr ⟨hrtc (List.cons_ne_nil _ _), hrests⟩
  · exact (inv_rtcBegin_iff rfl).mpr ⟨hrtc (List.cons_ne_nil _ _), hrests⟩
  · exact (inv_rtcBegin_iff rfl).mpr ⟨hrtc (List.cons_ne_nil _ _), hrests⟩
  · exact (inv_bcd_iff rfl).mpr ⟨rfl, ⟨_, hrun⟩, ⟨hrests, hreleased⟩, hregs⟩

theorem hostWrite_inv (n : Nat) (w : Word24) (h : invWith p s = true) : invWith p (hostWrite n w s) = true := by
  obtain hw | ⟨-, hidle, i, hd, hw⟩ | ⟨-, -, hw⟩ := hostWrite_cases n w s <;> rw [hw]
  · exact h
  · exact acceptCommand_inv hd (idleOk_of_not_busy h hidle)
  · exact h

theorem hostRead_inv (n : Nat) (h : invWith p s = true) : invWith p (hostRead p n s) = true := by
  obtain ⟨w, k, d, hread⟩ := hostRead_spec p n s
  rw [hread]
  exact h

/-- Settles O13: whatever the step carries out, whole or one micro-operation of it, goes on and keeps the invariant. The
invariant says nothing of the host's list or of a transaction laid in. -/
theorem everyStepGoesOnAndKeepsTheInvariant : Obligations.EveryStepGoesOnAndKeepsTheInvariant := by
  intro s h
  show GoesOnInv Config.params (step s)
  obtain ⟨a, d, _, hs | ⟨i, hidle, _, hs⟩⟩ | ⟨_, ⟨_, hs⟩ | ⟨rest, hact⟩⟩ := step_cases s
  · exact hs ▸ goesOnInv_next.mpr h
  · exact hs ▸ exec_inv i (s := { s with probe := none }) (idleOk_of_not_busy h hidle)
  · exact hs ▸ engineStep_inv h
  · have hrest : invWith Config.params { s with host := rest } = true := h
    obtain ⟨_, hs⟩ | ⟨_, hs⟩ | ⟨n, _, hs⟩ | ⟨n, w, _, hs⟩ | ⟨w, i, _, hidle, _, hs⟩ | ⟨w, _, hs | hs⟩ := hact <;> rw [hs]
    · exact engineStep_inv hrest
    · exact goesOnInv_next.mpr resetMeetsTheInvariant
    · exact goesOnInv_next.mpr (hostRead_inv n hrest)
    · exact goesOnInv_next.mpr (hostWrite_inv n w hrest)
    · exact exec_inv i (idleOk_of_not_busy hrest hidle)
    · exact goesOnInv_next.mpr hrest
    · exact goesOnInv_next.mpr hrest

end Sys2Proof.Machine
end

section
/-! SUPPORT. Proof of O11 (R18, R22, R110 to R117, R140 to R150, R250): the phase table, run micro-operation by micro-operation,
against the whole-command meanings. A meaning never looks at the sequencer, so a state of a run is a state of the meaning with
some sequencer put in its place; each phase is followed from its first micro-operation to its last. -/

namespace Sys2Proof.Machine

open Sys2Proof Sys2Proof.Claims

/-! ### Runs of the busy engine -/

/-- Some number of micro-operations leads from `s` to `t`, with `BUSY = 1` at every moment before `t`. -/
def RunsTo (p : Params) (s t : State) : Prop :=
  ∃ n, engineRun p n s = .next t ∧ ∀ m, m < n → ∃ u, engineRun p m s = .next u ∧ u.flags.busy = true

variable {p : Params}

theorem RunsTo.refl (s : State) : RunsTo p s s := ⟨0, rfl, fun _ hm => absurd hm (Nat.not_lt_zero _)⟩

/-- One micro-operation of the busy engine, then a run. -/
theorem RunsTo.head {s t u : State} (hbusy : s.flags.busy = true) (hstep : engineStep p s = .next t)
    (h : RunsTo p t u) : RunsTo p s u := by
  obtain ⟨n, hrun, hbefore⟩ := h
  refine ⟨n + 1, by simp [engineRun, hstep, hrun], fun m hm => ?_⟩
  cases m with
  | zero => exact ⟨s, rfl, hbusy⟩
  | succ m =>
    obtain ⟨v, hv, hb⟩ := hbefore m (by omega)
    exact ⟨v, by simp [engineRun, hstep, hv], hb⟩

theorem RunsTo.trans {s t u : State} (h : RunsTo p s t) (k : RunsTo p t u) : RunsTo p s u := by
  obtain ⟨n, hrun, hbefore⟩ := h
  obtain ⟨m, krun, kbefore⟩ := k
  refine ⟨n + m, by rw [engineRun_add, hrun, andThen_next, krun], fun j hj => ?_⟩
  by_cases hjn : j < n
  · exact hbefore j hjn
  · obtain ⟨v, hv, hb⟩ := kbefore (j - n) (by omega)
    refine ⟨v, ?_, hb⟩
    rw [← Nat.add_sub_cancel' (Nat.le_of_not_lt hjn), engineRun_add, hrun, andThen_next, hv]

/-! ### A state with another sequencer -/

/-- `s` with the sequencer `q`. -/
def State.withSeq (q : Seq) (s : State) : State := { s with seq := q }

@[simp] theorem withSeq_seq (q : Seq) (s : State) : (s.withSeq q).seq = q := rfl

theorem sampleLine_withSeq (l : BiLine) (q : Seq) (s : State) :
    sampleLine l (s.withSeq q) = ((sampleLine l s).1, (sampleLine l s).2.withSeq q) := by
  cases h : s.answers with
  | nil => rw [sampleLine_free (s := s.withSeq q) h, sampleLine_free h]; rfl
  | cons v rest => rw [sampleLine_listed (s := s.withSeq q) h, sampleLine_listed h]; rfl

/-- A checked sample of a line in Input mode, whatever the sequencer. -/
theorem sample_withSeq {l : BiLine} {s : State} (h : modeOf l.line s = .input) (q : Seq) :
    sample l (s.withSeq q) = .next ((sampleLine l s).1, (sampleLine l s).2.withSeq q) := by
  rw [sample_of_input (s := s.withSeq q) (by cases l <;> exact h), sampleLine_withSeq]

theorem setFrame_withSeq (k : FrameIx) (b : Byte) (q : Seq) (s : State) :
    setFrame k b (s.withSeq q) = (setFrame k b s).withSeq q := by
  cases k <;> rfl

theorem swValidate_withSeq (q : Seq) (s : State) : swValidate (s.withSeq q) = (swValidate s).withSeq q := by
  have haccepted : frameAccepted (s.withSeq q) = frameAccepted s := rfl
  cases h : frameAccepted s with
  | true => rw [swValidate_of_accepted h, swValidate_of_accepted (haccepted.trans h)]; rfl
  | false => rw [swValidate_of_rejected h, swValidate_of_rejected (haccepted.trans h)]; rfl

theorem endCommand_withSeq (q : Seq) (s : State) : endCommand (s.withSeq q) = endCommand s := rfl

/-! ### The single-wire half -/

/-- The engine is busy and may sample `SW`. -/
structure SwReady (s : State) : Prop where
  busy : s.flags.busy = true
  mode : s.pins.swMode = .input

theorem SwReady.of_readsLine {n d : Nat} {s t : State} (h : SwReady s) (k : ReadsLine n d s t) : SwReady t :=
  ⟨by rw [k.flags, h.busy], by rw [k.pins, h.mode]⟩

/-- The start pulse, micro-operation by micro-operation (R110). -/
theorem runsTo_swStart {u : State} (hbusy : u.flags.busy = true) (q : Seq) :
    RunsTo p (u.withSeq { q with phase := .swStart .toOutput })
      ((swStart p u).withSeq { q with phase := .swCheck .waitAnswer }) := by
  refine .head (t := (setOutput .sw u).withSeq { q with phase := .swStart .driveLow }) hbusy rfl ?_
  refine .head (t := (driveLine .sw .low (setOutput .sw u)).withSeq { q with phase := .swStart .holdLow }) hbusy rfl ?_
  refine .head (t := (delayMs p p.tResetLowMs (driveLine .sw .low (setOutput .sw u))).withSeq
    { q with phase := .swStart .driveHigh }) hbusy rfl ?_
  refine .head (t := (driveLine .sw .high (delayMs p p.tResetLowMs (driveLine .sw .low (setOutput .sw u)))).withSeq
    { q with phase := .swStart .holdHigh }) hbusy rfl ?_
  refine .head (t := (delayUs p p.tStartHighUs (driveLine .sw .high (delayMs p p.tResetLowMs (driveLine .sw .low
    (setOutput .sw u))))).withSeq { q with phase := .swStart .release }) hbusy rfl ?_
  exact .head hbusy rfl (.refl _)

theorem SwReady.delayUs {u : State} (h : SwReady u) (n : Nat) : SwReady (delayUs p n u) := ⟨h.busy, h.mode⟩

theorem SwReady.sampleLine {u : State} (h : SwReady u) : SwReady (sampleLine .sw u).2 :=
  h.of_readsLine (readsLine_sampleLine u)

/-- The samples of the response check, up to its guard (R111). -/
theorem runsTo_swProbe {u : State} (h : SwReady u) (q : Seq) :
    RunsTo p (u.withSeq { q with phase := .swCheck .waitAnswer })
      ((swProbe p u).2.withSeq { q with phase := .swCheck .guard, resp := (swProbe p u).1, spin := 0 }) := by
  refine .head (t := (delayUs p p.tRespWaitUs u).withSeq
    { q with phase := .swCheck .firstSample, resp := p.presNone }) h.busy rfl ?_
  have hready := h.delayUs (p := p) p.tRespWaitUs
  simp only [swProbe]
  generalize delayUs p p.tRespWaitUs u = a at hready ⊢
  have hsample := sample_withSeq (l := .sw) hready.mode { q with phase := .swCheck .firstSample, resp := p.presNone }
  cases hfirst : (sampleLine .sw a).1 with
  | high =>
    refine .head hready.busy ?_ (.refl _)
    show (sample .sw _).mapNext _ = _
    simp only [hsample, mapNext_next, hfirst]
    rfl
  | low =>
    refine .head (t := (sampleLine .sw a).2.withSeq { q with phase := .swCheck .waitHigh, resp := p.presNone })
      hready.busy ?_ ?_
    · show (sample .sw _).mapNext _ = _
      simp only [hsample, mapNext_next, hfirst]
      rfl
    refine .head (t := (delayUs p p.tRespHighUs (sampleLine .sw a).2).withSeq
      { q with phase := .swCheck .secondSample, resp := p.presNone }) hready.sampleLine.busy rfl ?_
    have hready' := hready.sampleLine.delayUs (p := p) p.tRespHighUs
    simp only
    generalize delayUs p p.tRespHighUs (sampleLine .sw a).2 = b at hready' ⊢
    have hsample' := sample_withSeq (l := .sw) hready'.mode
      { q with phase := .swCheck .secondSample, resp := p.presNone }
    cases hsecond : (sampleLine .sw b).1 <;>
    · refine .head hready'.busy ?_ (.refl _)
      show (sample .sw _).mapNext _ = _
      simp only [hsample', mapNext_next, hsecond]
      rfl

/-- How a spin-wait on `SW` goes on. -/
def afterSpin (onReached onExhausted : State → State) (q : Seq) : Spin × State → State
  | (.reached, t) => onReached (t.withSeq q)
  | (.exhausted, t) => onExhausted (t.withSeq q)

/-- A phase that polls `SW` is the spin-wait, the polls made counted in `SEQ.spin` (R96). -/
theorem runsTo_spinUntil {v : Level} {budget : Nat} {q : Seq} {onReached onExhausted : State → State}
    (hstep : ∀ (u : State) (k : Nat), engineStep p (u.withSeq { q with spin := k }) =
      (pollStep .sw v budget (u.withSeq { q with spin := k })).mapNext fun r =>
        match r.1 with
        | .reached => onReached r.2
        | .again => r.2
        | .exhausted => onExhausted r.2)
    {n k : Nat} (hn : k + n = budget) {u : State} (h : SwReady u) :
    ∃ j, RunsTo p (u.withSeq { q with spin := k })
      (afterSpin onReached onExhausted { q with spin := j } (spinUntil .sw v n u)) := by
  induction n generalizing k u with
  | zero =>
    refine ⟨k, .head h.busy ?_ (.refl _)⟩
    rw [hstep, pollStep, if_neg (by simp; omega), mapNext_next]
    rfl
  | succ n ih =>
    have hsample := sample_withSeq (l := .sw) h.mode { q with spin := k }
    have hpoll : k < budget := by omega
    simp only [spinUntil]
    split
    case isTrue hv =>
      refine ⟨k, .head h.busy ?_ (.refl _)⟩
      rw [hstep, pollStep, if_pos (by simpa using hpoll), hsample, mapNext_next, mapNext_next, if_pos hv]
      rfl
    case isFalse hv =>
      obtain ⟨j, hrest⟩ := ih (k := k + 1) (by omega) h.sampleLine
      refine ⟨j, .head h.busy ?_ hrest⟩
      rw [hstep, pollStep, if_pos (by simpa using hpoll), hsample, mapNext_next, mapNext_next, if_neg hv]
      rfl

/-- The sequencer at the first bit of frame byte `k`. -/
def Seq.atByte (q : Seq) (k : FrameIx) : Seq := { q with phase := .swBitWaitHigh, byte := k, bit := 0, spin := 0 }

/-- `SW_CHECK`, whole (R111): the code goes to `PRES`, and the frame begins. -/
theorem runsTo_swCheckResponse {u : State} (h : SwReady u) (q : Seq) :
    ∃ q' : Seq, q'.cmd = q.cmd ∧ RunsTo p (u.withSeq { q with phase := .swCheck .waitAnswer })
      ((clearV (swStorePresence p u)).withSeq (q'.atByte .b0)) := by
  have hprobe := runsTo_swProbe (p := p) h q
  have hready := h.of_readsLine (readsLine_swProbe p u)
  simp only [swStorePresence, swCheckResponse]
  generalize swProbe p u = r at hprobe hready ⊢
  obtain ⟨j, hguard⟩ := runsTo_spinUntil (p := p) (v := .low) (budget := p.nResp)
    (q := { q with phase := .swCheck .guard, resp := r.1 }) (onReached := leaveCheck r.1)
    (onExhausted := leaveCheck p.presTimeout) (fun _ _ => rfl) (Nat.zero_add _) hready
  refine ⟨{ q with phase := .swCheck .guard, resp := r.1, spin := j }, rfl, hprobe.trans ?_⟩
  split <;> rename_i heq <;> rw [heq] at hguard <;> exact hguard

/-- How a bit ends the poll loop: complete, or the whole byte aborted. -/
def afterBitRead (p : Params) (q : Seq) : Option Level × State → State
  | (some b, t) => finishBit p (t.withSeq { q with sampled := b })
  | (none, t) => nextByte p 0 (t.withSeq q)

/-- One bit, whole (R112). -/
theorem runsTo_swReadBit {u : State} (h : SwReady u) (q : Seq) :
    ∃ q' : Seq, (q'.cmd = q.cmd ∧ q'.byte = q.byte ∧ q'.bit = q.bit) ∧
      RunsTo p (u.withSeq { q with phase := .swBitWaitHigh, spin := 0 }) (afterBitRead p q' (swReadBit p u)) := by
  obtain ⟨j, hstart⟩ := runsTo_spinUntil (p := p) (v := .high) (budget := p.nBitStart)
    (q := { q with phase := .swBitWaitHigh }) (onReached := goto .swBitDelay)
    (onExhausted := nextByte p 0) (fun _ _ => rfl) (Nat.zero_add _) h
  have hready := h.of_readsLine (readsLine_spinUntil .high p.nBitStart u)
  simp only [swReadBit]
  generalize spinUntil .sw .high p.nBitStart u = r at hstart hready ⊢
  obtain ⟨_ | _, t⟩ := r
  · have hready' := hready.delayUs (p := p) p.tBitSampleUs
    simp only
    have hdelay : RunsTo p (goto .swBitDelay (t.withSeq { q with phase := .swBitWaitHigh, spin := j }))
        ((delayUs p p.tBitSampleUs t).withSeq { q with phase := .swBitSample, spin := j }) :=
      .head hready.busy rfl (.refl _)
    have hrun := hstart.trans hdelay
    generalize delayUs p p.tBitSampleUs t = a at hrun hready' ⊢
    have hsample : RunsTo p (a.withSeq { q with phase := .swBitSample, spin := j }) ((sampleLine .sw a).2.withSeq
        { q with phase := .swBitWaitLow, spin := 0, sampled := (sampleLine .sw a).1 }) := by
      refine .head hready'.busy ?_ (.refl _)
      show (sample .sw _).mapNext _ = _
      rw [sample_withSeq (l := .sw) hready'.mode, mapNext_next]
      rfl
    obtain ⟨i, hend⟩ := runsTo_spinUntil (p := p) (v := .low) (budget := p.nBitEnd)
      (q := { q with phase := .swBitWaitLow, sampled := (sampleLine .sw a).1 }) (onReached := finishBit p)
      (onExhausted := nextByte p 0) (fun _ _ => rfl) (Nat.zero_add _) hready'.sampleLine
    refine ⟨{ q with phase := .swBitWaitLow, sampled := (sampleLine .sw a).1, spin := i }, ⟨rfl, rfl, rfl⟩,
      (hrun.trans hsample).trans ?_⟩
    split <;> rename_i heq <;> rw [heq] at hend <;> exact hend
  · exact ⟨{ q with phase := .swBitWaitHigh, spin := j }, ⟨rfl, rfl, rfl⟩, hstart⟩

theorem SwReady.swReadBit {u : State} (h : SwReady u) : SwReady (swReadBit p u).2 :=
  h.of_readsLine (readsLine_swReadBit p u)

/-- The value of a byte by the outcome of its bits. -/
def byteOf (r : Bool × State) : Byte := if r.1 then r.2.hidden.v else 0

theorem finishBit_withSeq_last {q : Seq} (hlast : ¬ q.bit.val + 1 < p.byteBits) (t : State) :
    finishBit p (t.withSeq q) = nextByte p (orBit p q.sampled q.bit.val t).hidden.v
      ((orBit p q.sampled q.bit.val t).withSeq q) := if_neg hlast

theorem finishBit_withSeq_more {q : Seq} (hmore : q.bit.val + 1 < p.byteBits) (t : State) :
    finishBit p (t.withSeq q) = (orBit p q.sampled q.bit.val t).withSeq
      { q with phase := .swBitWaitHigh, bit := q.bit + 1, spin := 0 } := if_pos hmore

theorem SwReady.orBit {t : State} (h : SwReady t) (b : Level) (j : Nat) : SwReady (orBit p b j t) := ⟨h.busy, h.mode⟩

/-- The bits from `j` to the last (R113). -/
theorem runsTo_swReadBits (h8 : p.byteBits = 8) {n j : Nat} (hn : j + n = 7) {u : State} (h : SwReady u) (q : Seq)
    (hj : q.bit.val = j) :
    ∃ q' : Seq, (q'.cmd = q.cmd ∧ q'.byte = q.byte) ∧
      RunsTo p (u.withSeq { q with phase := .swBitWaitHigh, spin := 0 })
        (nextByte p (byteOf (swReadBits p (List.range' j (n + 1)) u))
          ((swReadBits p (List.range' j (n + 1)) u).2.withSeq q')) := by
  induction n generalizing j u q with
  | zero =>
    obtain ⟨q', ⟨hcmd, hbyte, hbit⟩, hrun⟩ := runsTo_swReadBit (p := p) h q
    simp only [List.range'_succ, List.range'_zero, swReadBits]
    generalize swReadBit p u = r at hrun ⊢
    obtain ⟨_ | b, t⟩ := r
    · exact ⟨q', ⟨hcmd, hbyte⟩, hrun⟩
    · have hlast : ¬ q'.bit.val + 1 < p.byteBits := by omega
      rw [afterBitRead, finishBit_withSeq_last (q := { q' with sampled := b }) hlast, hbit, hj] at hrun
      exact ⟨{ q' with sampled := b, bit := q.bit }, ⟨hcmd, hbyte⟩, hrun⟩
  | succ n ih =>
    obtain ⟨q', ⟨hcmd, hbyte, hbit⟩, hrun⟩ := runsTo_swReadBit (p := p) h q
    have hready := h.swReadBit (p := p)
    rw [List.range'_succ, swReadBits]
    generalize swReadBit p u = r at hrun hready ⊢
    obtain ⟨_ | b, t⟩ := r
    · exact ⟨q', ⟨hcmd, hbyte⟩, hrun⟩
    · have hmore : q'.bit.val + 1 < p.byteBits := by omega
      rw [afterBitRead, finishBit_withSeq_more (q := { q' with sampled := b }) hmore, hbit, hj] at hrun
      have hnext : (q.bit + 1).val = j + 1 := by rw [val_succ_of_lt (by omega), hj]
      obtain ⟨q'', ⟨hcmd', hbyte'⟩, hrest⟩ := ih (j := j + 1) (by omega) (hready.orBit (p := p) b j)
        { q' with sampled := b, bit := q.bit + 1 } hnext
      exact ⟨q'', ⟨hcmd'.trans hcmd, hbyte'.trans hbyte⟩, hrun.trans hrest⟩

/-- A byte, whole, and the frame register it goes to (R113, R114). -/
theorem runsTo_swReadInto (h8 : p.byteBits = 8) {u : State} (h : SwReady u) (q : Seq) (k : FrameIx) :
    ∃ q' : Seq, q'.cmd = q.cmd ∧ RunsTo p ((clearV u).withSeq (q.atByte k))
      (match nextFrameIx p k with
        | some k' => (clearV (swReadInto p k u)).withSeq (q'.atByte k')
        | none => (swReadInto p k u).withSeq { q' with phase := .swValidate }) := by
  have hready : SwReady (clearV u) := ⟨h.busy, h.mode⟩
  obtain ⟨q', ⟨hcmd, hbyte⟩, hrun⟩ := runsTo_swReadBits h8 (Nat.zero_add 7) hready (q.atByte k) rfl
  refine ⟨q', hcmd, ?_⟩
  have hvalue : (byteOf (swReadBits p (List.range' 0 8) (clearV u)), (swReadBits p (List.range' 0 8) (clearV u)).2) =
      swReadByte p u := by
    rw [swReadByte, h8, List.range_eq_range']
    generalize swReadBits p (List.range' 0 8) (clearV u) = r
    obtain ⟨_ | _, t⟩ := r <;> rfl
  have hbyte' : q'.byte = k := hbyte
  obtain ⟨hv, ht⟩ := Prod.ext_iff.mp hvalue
  simp only at hv ht
  rw [hv, ht, nextByte, withSeq_seq, hbyte', setFrame_withSeq] at hrun
  rw [swReadInto]
  split <;> rename_i heq <;> rw [heq] at hrun <;> exact hrun

theorem SwReady.swReadInto {u : State} (h : SwReady u) (k : FrameIx) : SwReady (swReadInto p k u) :=
  h.of_readsLine ((readsLine_swReadByte p u).trans (readsLine_setFrame k _ _))

/-- The frame, byte by byte (R114). -/
theorem runsTo_swReadFrame (h5 : p.frameBytes = 5) (h8 : p.byteBits = 8) {u : State} (h : SwReady u) (q : Seq) :
    ∃ q' : Seq, q'.cmd = q.cmd ∧
      RunsTo p ((clearV u).withSeq (q.atByte .b0)) ((swReadFrame p u).withSeq { q' with phase := .swValidate }) := by
  have horder : frameOrder p = [.b0, .b1, .b2, .b3, .b4] := by rw [frameOrder, h5]; rfl
  obtain ⟨q0, hc0, h0⟩ := runsTo_swReadInto h8 h q .b0
  obtain ⟨q1, hc1, h1⟩ := runsTo_swReadInto h8 (h.swReadInto .b0) q0 .b1
  obtain ⟨q2, hc2, h2⟩ := runsTo_swReadInto h8 ((h.swReadInto .b0).swReadInto .b1) q1 .b2
  obtain ⟨q3, hc3, h3⟩ := runsTo_swReadInto h8 (((h.swReadInto .b0).swReadInto .b1).swReadInto .b2) q2 .b3
  obtain ⟨q4, hc4, h4⟩ :=
    runsTo_swReadInto h8 ((((h.swReadInto .b0).swReadInto .b1).swReadInto .b2).swReadInto .b3) q3 .b4
  simp only [nextFrameIx, horder] at h0 h1 h2 h3 h4
  rw [swReadFrame, horder]
  exact ⟨q4, hc4.trans (hc3.trans (hc2.trans (hc1.trans hc0))), (((h0.trans h1).trans h2).trans h3).trans h4⟩

/-- `SW.READ`, whole (R117). -/
theorem runsTo_swRead (h5 : p.frameBytes = 5) (h8 : p.byteBits = 8) {u : State} (hbusy : u.flags.busy = true) (q : Seq) :
    RunsTo p (u.withSeq { q with phase := .swStart .toOutput }) (endCommand (swReadBody p u)) := by
  have hstart : SwReady (swStart p u) := ⟨by rw [swStart_flags, hbusy], by rw [swStart_pins]⟩
  have hpres : SwReady (swStorePresence p (swStart p u)) :=
    hstart.of_readsLine ((readsLine_swCheckResponse p _).trans (readsLine_setPres _ _))
  obtain ⟨q1, -, hcheck⟩ := runsTo_swCheckResponse (p := p) hstart q
  obtain ⟨q2, -, hframe⟩ := runsTo_swReadFrame h5 h8 hpres q1
  have hframeReady : SwReady (swReadFrame p (swStorePresence p (swStart p u))) :=
    hpres.of_readsLine (readsLine_swReadFrame p _)
  refine (((runsTo_swStart hbusy q).trans hcheck).trans hframe).trans (.head hframeReady.busy ?_ (.refl _))
  show Host.Outcome.next (endCommand (swValidate _)) = _
  rw [swValidate_withSeq, endCommand_withSeq]
  rfl

end Sys2Proof.Machine
end

section
/-! SUPPORT. Proof of O11, second part (R140 to R150, R173): the three-wire half of the phase table, bit by bit, byte by byte,
transaction by transaction. -/

namespace Sys2Proof.Machine

open Sys2Proof Sys2Proof.Claims

variable {p : Params}

/-! ### A byte, bit by bit -/

/-- What the outcome `r` of a step gives, a run from `s` leads to. -/
def LeadsPast (p : Params) (s : State) (r : Result State) : Prop := ∀ t, r = .next t → RunsTo p s t

theorem RunsTo.leadsPast {s t : State} {r : Result State} (h : RunsTo p s t) (k : LeadsPast p t r) : LeadsPast p s r :=
  fun u hu => h.trans (k u hu)

theorem RunsTo.single {s t : State} (hstep : engineStep p s = .next t) (hbusy : s.flags.busy = true) : RunsTo p s t :=
  .head hbusy hstep (.refl t)

theorem leadsPast_engineStep {s : State} (hbusy : s.flags.busy = true) : LeadsPast p s (engineStep p s) :=
  fun _ ht => .single ht hbusy

/-- `bit` is one turn of a byte's loop in the phases `ph`: it keeps what the loop needs, and the micro-operations of these
phases make it, then go on as `afterBit` says. -/
def TurnsBits (p : Params) (ph : BitOp → Phase) (mode : Mode) (bit : State → State) : Prop :=
  ∀ u : State, u.flags.busy = true → u.pins.datMode = mode →
    (bit u).flags.busy = true ∧ (bit u).pins.datMode = mode ∧
      ∀ q : Seq, LeadsPast p (u.withSeq { q with phase := ph .level })
        (afterBit p (ph .level) ((bit u).withSeq { q with phase := ph .lowTime }))

/-- The clock pulse of a bit, up to its Low time, is the same three micro-operations in both directions (R140). -/
theorem runsTo_pulse {ph : BitOp → Phase} (hph : ph = .rtcWrBit ∨ ph = .rtcRdBit) {u : State}
    (hbusy : u.flags.busy = true) (q : Seq) :
    RunsTo p (u.withSeq { q with phase := ph .clockHigh })
      ((driveLine .clk .low (delayUs p p.tClkPhaseUs (driveLine .clk .high u))).withSeq
        { q with phase := ph .lowTime }) := by
  refine .head (t := (driveLine .clk .high u).withSeq { q with phase := ph .highTime }) hbusy ?_ ?_
  · rcases hph with rfl | rfl <;> rfl
  refine .head (t := (delayUs p p.tClkPhaseUs (driveLine .clk .high u)).withSeq { q with phase := ph .clockLow })
    hbusy ?_ (.head hbusy ?_ (.refl _))
  all_goals rcases hph with rfl | rfl <;> rfl

/-- A bit sent (R141). -/
theorem turnsBits_writeBit (p : Params) : TurnsBits p .rtcWrBit .output (writeBit p) := by
  refine fun u hbusy hmode => ⟨hbusy, hmode, fun q => ?_⟩
  have hlevel : engineStep p (u.withSeq { q with phase := .rtcWrBit .level }) =
      .next ((driveShiftBit u).withSeq { q with phase := .rtcWrBit .clockHigh }) := by
    show (drive .dat _ (u.withSeq _)).mapNext _ = _
    rw [drive_of_output (l := .dat) (s := u.withSeq { q with phase := .rtcWrBit .level }) hmode]
    rfl
  have hlevels := RunsTo.single hlevel hbusy
  rw [writeBit]
  have hbusy' : (driveShiftBit u).flags.busy = true := hbusy
  generalize driveShiftBit u = v at hlevels hbusy' ⊢
  exact (hlevels.trans (runsTo_pulse (.inl rfl) hbusy' q)).leadsPast (leadsPast_engineStep hbusy')

/-- A bit received (R142). -/
theorem turnsBits_readBit (p : Params) : TurnsBits p .rtcRdBit .input (readBit p) := by
  intro u hbusy hmode
  have hbusy' : (sampleAcc p (shiftAcc u)).flags.busy = true := by simpa [sampleAcc] using hbusy
  have hmode' : (sampleAcc p (shiftAcc u)).pins.datMode = .input := by simpa [sampleAcc] using hmode
  refine ⟨hbusy', hmode', fun q => ?_⟩
  have hlevel : engineStep p (u.withSeq { q with phase := .rtcRdBit .level }) =
      .next ((sampleAcc p (shiftAcc u)).withSeq { q with phase := .rtcRdBit .clockHigh }) := by
    show (sample .dat ((shiftAcc u).withSeq _)).mapNext _ = _
    rw [sample_withSeq (l := .dat) (s := shiftAcc u) hmode]
    rfl
  have hlevels := RunsTo.single hlevel hbusy
  rw [readBit]
  generalize sampleAcc p (shiftAcc u) = v at hlevels hbusy' ⊢
  exact (hlevels.trans (runsTo_pulse (.inr rfl) hbusy' q)).leadsPast (leadsPast_engineStep hbusy')

theorem afterBit_more {again : Phase} {s : State} (hmore : s.seq.bit.val + 1 < p.byteBits) :
    afterBit p again s = .next (goto again (setBit (s.seq.bit + 1) s)) := if_pos hmore

theorem afterBit_last {again : Phase} {s : State} (hlast : ¬ s.seq.bit.val + 1 < p.byteBits) :
    afterBit p again s = afterByte p s := if_neg hlast

/-- The loop of a byte, from bit `j` to the last. -/
theorem leadsPast_bits (h8 : p.byteBits = 8) {ph : BitOp → Phase} {mode : Mode} {bit : State → State}
    (hbits : TurnsBits p ph mode bit) {n j : Nat} (hn : j + n = 7) {u : State} (hbusy : u.flags.busy = true)
    (hmode : u.pins.datMode = mode) (q : Seq) (hj : q.bit.val = j) :
    LeadsPast p (u.withSeq { q with phase := ph .level })
      (afterByte p ((bit^[n + 1] u).withSeq { q with phase := ph .lowTime, bit := 7 })) := by
  induction n generalizing j u q with
  | zero =>
    obtain ⟨-, -, hbit⟩ := hbits u hbusy hmode
    have hlast := hbit q
    rw [afterBit_last (by simp; omega)] at hlast
    have hq : q.bit = 7 := Fin.ext (by rw [hj]; exact hn)
    rwa [← hq]
  | succ n ih =>
    obtain ⟨hbusy', hmode', hbit⟩ := hbits u hbusy hmode
    have hmore := hbit q
    rw [afterBit_more (by simp; omega)] at hmore
    have hnext : (q.bit + 1).val = j + 1 := by rw [val_succ_of_lt (by omega), hj]
    exact (hmore _ rfl).leadsPast
      (ih (j := j + 1) (by omega) hbusy' hmode' { q with bit := q.bit + 1 } hnext)

theorem writeBits_eq_iterate (p : Params) (n : Nat) (s : State) : writeBits p n s = (writeBit p)^[n] s := by
  induction n generalizing s with
  | zero => rfl
  | succ n ih => exact ih _

theorem readBits_eq_iterate (p : Params) (n : Nat) (s : State) : readBits p n s = (readBit p)^[n] s := by
  induction n generalizing s with
  | zero => rfl
  | succ n ih => exact ih _

/-- `WriteByte`, micro-operation by micro-operation. -/
theorem leadsPast_writeByte (h8 : p.byteBits = 8) {u : State} (hbusy : u.flags.busy = true) (q : Seq) {b : Byte}
    (hout : outByte p (u.withSeq q) = some b) :
    LeadsPast p (u.withSeq { q with phase := .rtcWrBit .turn, bit := 0 })
      (afterByte p ((writeByte p b u).withSeq { q with phase := .rtcWrBit .lowTime, bit := 7 })) := by
  have hturn : engineStep p (u.withSeq { q with phase := .rtcWrBit .turn, bit := 0 }) =
      .next ((loadSh b (setOutput .dat u)).withSeq { q with phase := .rtcWrBit .level, bit := 0 }) := by
    show wrBitStep p .turn _ = _
    have hout' : outByte p (u.withSeq { q with phase := .rtcWrBit .turn, bit := 0 }) = some b := hout
    simp only [wrBitStep, hout']
    rfl
  have hloop := leadsPast_bits h8 (turnsBits_writeBit p) (Nat.zero_add 7) (u := loadSh b (setOutput .dat u)) hbusy rfl
    { q with bit := 0 } rfl
  rw [← writeBits_eq_iterate] at hloop
  rw [writeByte, h8]
  exact (RunsTo.single hturn hbusy).leadsPast hloop

/-- `ReadByte`, micro-operation by micro-operation. -/
theorem leadsPast_readByte (h8 : p.byteBits = 8) {u : State} (hbusy : u.flags.busy = true) (q : Seq) :
    LeadsPast p (u.withSeq { q with phase := .rtcRdBit .turn, bit := 0 })
      (afterByte p ((readByte p u).withSeq { q with phase := .rtcRdBit .lowTime, bit := 7 })) := by
  have hturn : engineStep p (u.withSeq { q with phase := .rtcRdBit .turn, bit := 0 }) =
      .next ((clearAcc (setInput .dat u)).withSeq { q with phase := .rtcRdBit .level, bit := 0 }) := rfl
  have hloop := leadsPast_bits h8 (turnsBits_readBit p) (Nat.zero_add 7) (u := clearAcc (setInput .dat u)) hbusy rfl
    { q with bit := 0 } rfl
  rw [← readBits_eq_iterate] at hloop
  rw [readByte, h8]
  exact (RunsTo.single hturn hbusy).leadsPast hloop

/-! ### Transactions -/

/-- A register transaction while the chip is enabled: everything before the end of `CE` (R145, R146). -/
def openTx (p : Params) : Tx → State → State
  | .write a v, s => s |> beginTransaction |> writeByte p a |> writeByte p v
  | .read a, s => s |> beginTransaction |> writeByte p a |> readByte p

theorem writeByte_flags (h8 : p.byteBits = 8) (v : Byte) (s : State) : (writeByte p v s).flags = s.flags := by
  obtain ⟨d, k, h⟩ := writeByte_spec h8 v s
  rw [h]

theorem readByte_flags (h8 : p.byteBits = 8) (s : State) : (readByte p s).flags = s.flags := by
  obtain ⟨r, as, d, k, -, h⟩ := readByte_spec h8 s
  rw [h]

theorem openTx_flags (h8 : p.byteBits = 8) (t : Tx) (s : State) : (openTx p t s).flags = s.flags := by
  cases t with
  | write a v => rw [openTx, writeByte_flags h8, writeByte_flags h8]; rfl
  | read a => rw [openTx, readByte_flags h8, writeByte_flags h8]; rfl

/-- `RTC_BEGIN` and the address byte. -/
theorem leadsPast_address (h8 : p.byteBits = 8) {u : State} (hbusy : u.flags.busy = true) (q : Seq) {t : Tx}
    (htx : currentTx p (u.withSeq q) = some t) :
    LeadsPast p (u.withSeq { q with phase := .rtcBegin .clockLow })
      (afterByte p ((writeByte p (txAddress t) (beginTransaction u)).withSeq
        { q with phase := .rtcWrBit .lowTime, txByte := .address, bit := 7 })) := by
  have hclock : RunsTo p (u.withSeq { q with phase := .rtcBegin .clockLow })
      ((driveLine .clk .low u).withSeq { q with phase := .rtcBegin .enableHigh }) := .single rfl hbusy
  have henable : RunsTo p ((driveLine .clk .low u).withSeq { q with phase := .rtcBegin .enableHigh })
      ((beginTransaction u).withSeq { q with phase := .rtcWrBit .turn, txByte := .address, bit := 0 }) :=
    .single rfl hbusy
  have hout : outByte p ((beginTransaction u).withSeq { q with txByte := .address }) = some (txAddress t) := by
    have htx' : currentTx p ((beginTransaction u).withSeq { q with txByte := .address }) = some t := htx
    simp [outByte, htx']
  exact (hclock.trans henable).leadsPast
    (leadsPast_writeByte h8 (u := beginTransaction u) hbusy { q with txByte := .address } hout)

theorem afterByte_data {s : State} (h : s.seq.txByte = .data) : afterByte p s = .next (goto .rtcEnd s) := by
  simp only [afterByte, h]

theorem afterByte_address_write {a v : Byte} {s : State} (h : s.seq.txByte = .address)
    (htx : currentTx p s = some (.write a v)) :
    afterByte p s = .next (s |> setTxByte .data |> setBit 0 |> goto (.rtcWrBit .turn)) := by
  simp only [afterByte, h, htx]

theorem afterByte_address_read {a : Byte} {s : State} (h : s.seq.txByte = .address)
    (htx : currentTx p s = some (.read a)) :
    afterByte p s = .next (s |> setTxByte .data |> setBit 0 |> goto (.rtcRdBit .turn)) := by
  simp only [afterByte, h, htx]

/-- A transaction, micro-operation by micro-operation, up to `RTC_END`. -/
theorem runsTo_openTx (h8 : p.byteBits = 8) {u : State} (hbusy : u.flags.busy = true) (q : Seq) {t : Tx}
    (htx : currentTx p (u.withSeq q) = some t) :
    RunsTo p (u.withSeq { q with phase := .rtcBegin .clockLow })
      ((openTx p t u).withSeq { q with phase := .rtcEnd, txByte := .data, bit := 7 }) := by
  have haddress := leadsPast_address h8 hbusy q htx
  have hbusy' : (writeByte p (txAddress t) (beginTransaction u)).flags.busy = true := by
    rw [writeByte_flags h8]
    exact hbusy
  cases t with
  | write a v =>
    simp only [openTx, txAddress] at haddress hbusy' ⊢
    generalize writeByte p a (beginTransaction u) = x at haddress hbusy' ⊢
    have htx' : currentTx p (x.withSeq q) = some (.write a v) := htx
    have hout : outByte p (x.withSeq { q with txByte := .data }) = some v := by
      have hdata : currentTx p (x.withSeq { q with txByte := .data }) = some (.write a v) := htx
      simp [outByte, hdata]
    have hdata := leadsPast_writeByte h8 hbusy' { q with txByte := .data } hout
    exact (haddress _ (afterByte_address_write rfl htx')).trans (hdata _ (afterByte_data rfl))
  | read a =>
    simp only [openTx, txAddress] at haddress hbusy' ⊢
    generalize writeByte p a (beginTransaction u) = x at haddress hbusy' ⊢
    have htx' : currentTx p (x.withSeq q) = some (.read a) := htx
    have hdata := leadsPast_readByte h8 hbusy' { q with txByte := .data }
    exact (haddress _ (afterByte_address_read rfl htx')).trans (hdata _ (afterByte_data rfl))

/-- What the finished transaction number `k` of a command writes: `storeTx` with the number said. -/
def storeAt (i : Instr) (k : Nat) (s : State) : State :=
  match i with
  | .rtcRdreg _ => storeRdata s
  | .rtcGettime =>
    match timeFields[k]? with
    | some f => storeTime f s
    | none => s
  | _ => s

theorem storeTx_withSeq (i : Instr) (q : Seq) (s : State) :
    storeTx i (s.withSeq q) = (storeAt i q.step.val s).withSeq q := by
  cases i with
  | rtcGettime =>
    simp only [storeTx, storeAt, withSeq_seq]
    cases timeFields[q.step.val]? with
    | none => rfl
    | some f => cases f <;> rfl
  | _ => rfl

/-- The transactions `ts` of a command, the first its number `k`, each with what it writes. -/
def runTxs (p : Params) (i : Instr) : List Tx → Nat → State → State
  | [], _, s => s
  | t :: ts, k, s => runTxs p i ts (k + 1) (storeAt i k (endTransaction (openTx p t s)))

theorem storeAt_flags (i : Instr) (k : Nat) (s : State) : (storeAt i k s).flags = s.flags := by
  cases i with
  | rtcGettime =>
    simp only [storeAt]
    cases timeFields[k]? with
    | none => rfl
    | some f => simp [storeTime]
  | _ => rfl

/-- `RTC_END`: `CE` Low, the result stored, then the next transaction or the end of the command. -/
theorem endStep_withSeq {i : Instr} {u : State} {q : Seq} (hrun : running (u.withSeq q) = some i) :
    endStep p (u.withSeq q) = .next (if q.step.val + 1 < (txs p i).length then
      (storeAt i q.step.val (endTransaction u)).withSeq { q with phase := .rtcBegin .clockLow, step := q.step + 1 }
      else endCommand (storeAt i q.step.val (endTransaction u))) := by
  have hlow : driveLine .ce .low (u.withSeq q) = (endTransaction u).withSeq q := rfl
  simp only [endStep, hrun, drive_ce, mapNext_next, hlow, storeTx_withSeq, withSeq_seq, endCommand_withSeq]
  rfl

/-- The transactions of a command from number `k` on, to the end of the command. -/
theorem runsTo_runTxs (h8 : p.byteBits = 8) {i : Instr} {ts : List Tx} {t : Tx} {k : Nat}
    (hts : (txs p i).drop k = t :: ts) {u : State} (hbusy : u.flags.busy = true) (q : Seq)
    (hrun : running (u.withSeq q) = some i) (hk : q.step.val = k) :
    RunsTo p (u.withSeq { q with phase := .rtcBegin .clockLow }) (endCommand (runTxs p i (t :: ts) k u)) := by
  have htx : currentTx p (u.withSeq q) = some t := by
    rw [currentTx, hrun, Option.bind_some, withSeq_seq, hk, ← List.head?_drop, hts, List.head?_cons]
  have hlength : (txs p i).length = k + (ts.length + 1) := by
    have hdrop := congrArg List.length hts
    rw [List.length_drop, List.length_cons] at hdrop
    omega
  have hopen := runsTo_openTx h8 hbusy q htx
  have hbusy' : (openTx p t u).flags.busy = true := by rw [openTx_flags h8, hbusy]
  have hend := endStep_withSeq (p := p) (u := openTx p t u) (q := { q with phase := .rtcEnd, txByte := .data, bit := 7 })
    hrun
  simp only [hk] at hend
  rw [runTxs]
  cases ts with
  | nil =>
    rw [if_neg (by simp [hlength])] at hend
    exact hopen.trans (.single hend hbusy')
  | cons t' ts =>
    rw [if_pos (by simp [hlength])] at hend
    have hrest : (txs p i).drop (k + 1) = t' :: ts := by rw [← List.tail_drop, hts, List.tail_cons]
    have hnext : (q.step + 1).val = k + 1 := by
      have hle := length_txs_le p i
      rw [val_succ_of_lt (by simp at hlength; omega), hk]
    have hbusy'' : (storeAt i k (endTransaction (openTx p t u))).flags.busy = true := by
      rw [storeAt_flags]
      exact hbusy'
    exact (hopen.trans (.single hend hbusy')).trans (runsTo_runTxs h8 hrest hbusy''
      { q with txByte := .data, bit := 7, step := q.step + 1 } hrun hnext)
  termination_by ts.length

/-! ### The commands -/

/-- The transactions of a command are its body `body`. -/
def TxsAre (p : Params) (i : Instr) (body : State → State) : Prop :=
  ∃ t ts, txs p i = t :: ts ∧ ∀ s, runTxs p i (t :: ts) 0 s = body s

theorem runTxs_map_write (p : Params) (ws : List (Byte × Byte)) (k : Nat) (s : State) :
    runTxs p .rtcInit (ws.map fun w => .write w.1 w.2) k s = writeAll p ws s := by
  induction ws generalizing k s with
  | nil => rfl
  | cons w ws ih => exact ih _ _

theorem txsAre_wrreg (p : Params) (a b : Byte) : TxsAre p (.rtcWrreg a b) (writeRegister p a b) :=
  ⟨.write a b, [], rfl, fun _ => rfl⟩

theorem txsAre_rdreg (p : Params) (a : Byte) : TxsAre p (.rtcRdreg a) fun s => storeRdata (readRegister p a s) :=
  ⟨.read a, [], rfl, fun _ => rfl⟩

theorem txsAre_init (p : Params) : TxsAre p .rtcInit (writeAll p (initWrites p)) :=
  ⟨_, _, rfl, runTxs_map_write p (initWrites p) 0⟩

theorem txsAre_gettime (p : Params) : TxsAre p .rtcGettime (getTimeBody p) := ⟨_, _, rfl, fun _ => rfl⟩

/-- A command that makes transactions, from its acceptance to the fall of `BUSY`. -/
theorem runsTo_of_txsAre (h8 : p.byteBits = 8) {i : Instr} {body : State → State} (hbody : TxsAre p i body)
    (hfirst : firstPhase i = .rtcBegin .clockLow) {w : Word24} (hd : decodeCmd w = .ok i) (s : State) :
    RunsTo p (acceptCommand w i s) (endCommand (body (beginCommand s))) := by
  obtain ⟨t, ts, htxs, hruns⟩ := hbody
  have hrun : running ((beginCommand s).withSeq { Seq.idle with cmd := w }) = some i := by simp [running, hd]
  have h := runsTo_runTxs h8 (i := i) (k := 0) (by rw [List.drop_zero, htxs]) (u := beginCommand s) rfl
    { Seq.idle with cmd := w } hrun rfl
  rw [hruns] at h
  rw [acceptCommand, hfirst]
  exact h

/-- `BCD` is one micro-operation. -/
theorem runsTo_bcd {b : Byte} {w : Word24} (hd : decodeCmd w = .ok (.bcdDec b)) (s : State) :
    RunsTo p (acceptCommand w (.bcdDec b) s) (endCommand (setRdata (bcdDec b) (beginCommand s))) := by
  have hrun : running (acceptCommand w (.bcdDec b) s) = some (.bcdDec b) := by simp [running, acceptCommand, hd]
  refine .single ?_ rfl
  show bcdStep _ = _
  rw [bcdStep, hrun]
  rfl

/-- Settles O11: each command's phases followed from the first to the fall of `BUSY`. -/
theorem phaseTableImplementsCommands : Obligations.PhaseTableImplementsCommands := by
  intro s w i hd
  suffices h : ∃ body : State → State, exec i s = .next (endCommand (body (beginCommand s))) ∧
      RunsTo Config.params (acceptCommand w i s) (endCommand (body (beginCommand s))) by
    obtain ⟨body, hexec, n, hrun, hbefore⟩ := h
    exact ⟨n, _, hexec, hrun, rfl, hbefore⟩
  have h8 := params_byteBits
  rcases decodeCmd_ok_cases hd with ⟨-, rfl⟩ | ⟨-, rfl⟩ | ⟨-, rfl⟩ | ⟨-, rfl⟩ | ⟨-, rfl⟩ | ⟨-, rfl⟩
  · exact ⟨swReadBody Config.params, rfl, runsTo_swRead rfl h8 (u := beginCommand s) rfl { Seq.idle with cmd := w }⟩
  · exact ⟨writeRegister Config.params (aField w) (bField w), rfl,
      runsTo_of_txsAre h8 (txsAre_wrreg _ _ _) rfl hd s⟩
  · exact ⟨fun u => storeRdata (readRegister Config.params (aField w) u), rfl,
      runsTo_of_txsAre h8 (txsAre_rdreg _ _) rfl hd s⟩
  · exact ⟨writeAll Config.params (initWrites Config.params), rfl, runsTo_of_txsAre h8 (txsAre_init _) rfl hd s⟩
  · exact ⟨getTimeBody Config.params, rfl, runsTo_of_txsAre h8 (txsAre_gettime _) rfl hd s⟩
  · exact ⟨setRdata (bcdDec (bField w)), rfl, runsTo_bcd hd s⟩

end Sys2Proof.Machine
end

section
/-! SUPPORT. Proofs of O23 (R96) and O59 (R182): the spin-wait on either line while its answers are listed, and
`RTC.GETTIME` on a dead line. -/

namespace Sys2Proof.Machine

open Sys2Proof Sys2Proof.Claims

/-! ### The spin-wait (R96) -/

/-- `s` after samples of `l` that read the levels `vs` and left the answers `as`. -/
def State.afterSamples (l : BiLine) (vs as : List Level) (s : State) : State :=
  { s with trace := s.trace ++ vs.map (.sample l), answers := as }

/-- Polls that read the other level only use up budget. -/
theorem spinUntil_polls_other {l : BiLine} {v : Level} (k n : Nat) {as : List Level} {s : State}
    (h : s.answers = List.replicate k (other v) ++ as) :
    spinUntil l v (k + n) s = spinUntil l v n (s.afterSamples l (List.replicate k (other v)) as) := by
  induction k generalizing s with
  | zero =>
    obtain rfl : s.answers = as := h
    simp [State.afterSamples]
  | succ k ih =>
    have hsample := sampleLine_listed (l := l) (s := s) (v := other v)
      (rest := List.replicate k (other v) ++ as) h
    rw [Nat.add_right_comm, spinUntil, hsample, if_neg (other_ne v), ih rfl]
    simp [State.afterSamples, List.replicate_succ]

theorem onlyListened_afterSamples (l : BiLine) (vs as : List Level) (s : State) :
    OnlyListened s (s.afterSamples l vs as) := ⟨rfl, rfl, rfl, rfl, rfl, rfl, rfl⟩

/-- Settles O23: the polls of the other level, then the poll that reads the wanted one or no budget left. -/
theorem spinUntilPollsAtMostItsBudget : Obligations.SpinUntilPollsAtMostItsBudget := by
  refine fun l v budget rest s => ⟨fun k hk h => ?reached, fun h => ?exhausted⟩
  case reached =>
    obtain ⟨n, rfl⟩ : ∃ n, budget = k + (n + 1) := ⟨budget - k - 1, by omega⟩
    rw [spinUntil_polls_other k (n + 1) h, spinUntil, sampleLine_listed rfl]
    simp [State.afterSamples, OnlyListened, HostKept]
  case exhausted =>
    rw [← Nat.add_zero budget, spinUntil_polls_other budget 0 h, spinUntil]
    exact ⟨rfl, rfl, by simp [State.afterSamples], onlyListened_afterSamples _ _ _ s, rfl⟩

/-! ### A dead line (R182) -/

/-- The same byte heard six times. -/
theorem exec_gettime_of_one_byte {b : Byte} {s : State} {rest : List Level}
    (h : s.answers = byteAnswers b ++ byteAnswers b ++ byteAnswers b ++ byteAnswers b ++ byteAnswers b ++
      byteAnswers b ++ rest) :
    ∃ t, exec .rtcGettime s = .next t ∧ (∀ f, timeReg f t = bcdDec b) ∧ t.flags = doneFlags s ∧ t.answers = rest := by
  obtain ⟨t, r0, r1, r2, r3, r4, r5, hexec, -, hregs, hheard, -, hflags, -⟩ := gettimeReadsAndDecodesSixFields.2 s
  obtain ⟨hbytes, hanswers⟩ := hheard b b b b b b rest h
  obtain ⟨rfl, rfl, rfl, rfl, rfl, rfl⟩ : r0 = b ∧ r1 = b ∧ r2 = b ∧ r3 = b ∧ r4 = b ∧ r5 = b := by simpa using hbytes
  refine ⟨t, hexec, fun f => ?_, hflags, hanswers⟩
  rw [timeReg_eq_time, hregs]
  cases f <;> rfl

/-- Settles O59: the six bytes heard are 0xFF, or 0. -/
theorem gettimeOnADeadLine : Obligations.GettimeOnADeadLine := by
  have hhigh : bcdDec 0xFF = 165 := by decide
  have hlow : bcdDec 0 = 0 := by decide
  exact fun s rest => ⟨fun h => hhigh ▸ exec_gettime_of_one_byte h, fun h => hlow ▸ exec_gettime_of_one_byte h⟩

end Sys2Proof.Machine
end

section
/-! SUPPORT. Proofs of O34 (R183, R204), O36 and O37 (R119): `SW.READ` while the line answers a response check and then five
bytes, each either clean or aborted. -/

namespace Sys2Proof.Machine

open Sys2Proof Sys2Proof.Claims

variable {p : Params}

/-! ### The bytes of a frame -/

/-- The answers `as` are read as the byte `b`, and used up. -/
def ReadAsByte (p : Params) (as : List Level) (b : Byte) : Prop :=
  ∀ (s : State) (rest : List Level), s.answers = as ++ rest →
    (swReadByte p s).1 = b ∧ (swReadByte p s).2.answers = rest ∧ OnlyListened s (swReadByte p s).2

/-- The answers `as` are read as the frame `f`, and used up. -/
def ReadAsFrame (p : Params) (as : List Level) (f : Frame) : Prop :=
  ∀ (s : State) (rest : List Level), s.answers = as ++ rest → (swReadFrame p s).answers = rest ∧
    (swReadFrame p s).regs =
      { s.regs with frame0 := f.b0, frame1 := f.b1, frame2 := f.b2, frame3 := f.b3, frame4 := f.b4 }

theorem setFrame_regs_congr (k : FrameIx) (b : Byte) {s t : State} (h : t.regs = s.regs) :
    (setFrame k b t).regs = (setFrame k b s).regs := by
  cases k <;> simp [h]

theorem swReadInto_of_readAsByte {as rest : List Level} {b : Byte} (h : ReadAsByte p as b) (k : FrameIx) {s : State}
    (hs : s.answers = as ++ rest) :
    (swReadInto p k s).answers = rest ∧ (swReadInto p k s).regs = (setFrame k b s).regs := by
  obtain ⟨hb, hrest, -, hregs, -⟩ := h s rest hs
  rw [swReadInto, hb]
  exact ⟨by rw [setFrame_answers, hrest], setFrame_regs_congr k b hregs⟩

/-- Five bytes are a frame (R114). -/
theorem readAsFrame_of_bytes (h5 : p.frameBytes = 5) {a0 a1 a2 a3 a4 : List Level} {f : Frame}
    (h0 : ReadAsByte p a0 f.b0) (h1 : ReadAsByte p a1 f.b1) (h2 : ReadAsByte p a2 f.b2) (h3 : ReadAsByte p a3 f.b3)
    (h4 : ReadAsByte p a4 f.b4) : ReadAsFrame p (a0 ++ a1 ++ a2 ++ a3 ++ a4) f := by
  intro s rest hs
  simp only [List.append_assoc] at hs
  obtain ⟨hs0, hr0⟩ := swReadInto_of_readAsByte h0 .b0 hs
  obtain ⟨hs1, hr1⟩ := swReadInto_of_readAsByte h1 .b1 hs0
  obtain ⟨hs2, hr2⟩ := swReadInto_of_readAsByte h2 .b2 hs1
  obtain ⟨hs3, hr3⟩ := swReadInto_of_readAsByte h3 .b3 hs2
  obtain ⟨hs4, hr4⟩ := swReadInto_of_readAsByte h4 .b4 hs3
  have horder : frameOrder p = [.b0, .b1, .b2, .b3, .b4] := by rw [frameOrder, h5]; rfl
  simp only [swReadFrame, horder, List.foldl_cons, List.foldl_nil]
  exact ⟨hs4, by simp [hr4, hr3, hr2, hr1, hr0]⟩

/-! ### A frame sent within the budgets (R183) -/

/-- The answers of the eight bits of byte `j` of a frame. -/
def frameByteAnswers (f : Frame) (m n : Nat → Nat) (j : Nat) : List Level :=
  leadingBits (f.byte j) 8 (fun i => m (8 * j + i)) (fun i => n (8 * j + i))

theorem streamBit_eq (f : Frame) (j : Nat) {i : Nat} (hi : i < 8) :
    streamBit f (8 * j + i) = bitLevel (f.byte j) (7 - i) := by
  rw [streamBit, show (8 * j + i) / 8 = j by omega, show (8 * j + i) % 8 = i by omega]

/-- The stream of bits, cut into the bytes it is made of (R64). -/
theorem flatMap_streamBits (f : Frame) (m n : Nat → Nat) (j : Nat) :
    ((List.range (8 * j)).flatMap fun k => bitAnswers (m k) (n k) (streamBit f k)) =
      (List.range j).flatMap (frameByteAnswers f m n) := by
  induction j with
  | zero => rfl
  | succ j ih =>
    rw [Nat.mul_succ, List.range_add, List.flatMap_append, ih, List.range_succ (n := j), List.flatMap_append]
    congr 1
    rw [List.flatMap_map, List.flatMap_singleton, frameByteAnswers, leadingBits]
    refine List.flatMap_congr fun i hi => ?_
    rw [streamBit_eq f j (List.mem_range.mp hi)]

theorem readAsByte_frameByteAnswers (h8 : p.byteBits = 8) {f : Frame} {m n : Nat → Nat}
    (hreached : ∀ k, k < 40 → m k < p.nBitStart ∧ n k < p.nBitEnd) {j : Nat} (hj : j < 5) :
    ReadAsByte p (frameByteAnswers f m n j) (f.byte j) :=
  fun _ _ hs => swReadByte_of_clean h8 (fun i hi => hreached (8 * j + i) (by omega)) hs

theorem readAsFrame_frameAnswers (h5 : p.frameBytes = 5) (h8 : p.byteBits = 8) {f : Frame} {m n : Nat → Nat}
    (hreached : ∀ k, k < 40 → m k < p.nBitStart ∧ n k < p.nBitEnd) : ReadAsFrame p (frameAnswers f m n) f := by
  have hbyte := fun j hj => readAsByte_frameByteAnswers h8 (f := f) hreached (j := j) hj
  have hchunks : frameAnswers f m n = frameByteAnswers f m n 0 ++ frameByteAnswers f m n 1 ++
      frameByteAnswers f m n 2 ++ frameByteAnswers f m n 3 ++ frameByteAnswers f m n 4 := by
    rw [frameAnswers, flatMap_streamBits f m n 5]
    simp [List.range_succ]
  rw [hchunks]
  exact readAsFrame_of_bytes h5 (hbyte 0 (by decide)) (hbyte 1 (by decide)) (hbyte 2 (by decide))
    (hbyte 3 (by decide)) (hbyte 4 (by decide))

/-! ### The command -/

/-- What `SW.READ` makes of a response check that finds `code` and a frame `f`. -/
structure ReadingOf (code : Byte) (f : Frame) (rest : List Level) (s t : State) : Prop where
  pres : t.regs.pres = code
  frame : frameOf t = f
  answers : t.answers = rest
  ckok : t.flags.ckok = true ↔ f.b4 = checksum f.b0 f.b1 f.b2 f.b3
  taken : f.b4 = checksum f.b0 f.b1 f.b2 f.b3 → t.regs.hum = f.b0 ∧ t.regs.temp = f.b2
  kept : f.b4 ≠ checksum f.b0 f.b1 f.b2 f.b3 → t.regs.hum = s.regs.hum ∧ t.regs.temp = s.regs.temp

theorem swFrameRead_of_heard {hs as rest : List Level} {code : Byte} {f : Frame} (hcheck : Handshake p hs code)
    (hframe : ReadAsFrame p as f) {s : State} (h : s.answers = hs ++ as ++ rest) :
    (swFrameRead p s).answers = rest ∧ (swFrameRead p s).regs = { s.regs with
      pres := code, frame0 := f.b0, frame1 := f.b1, frame2 := f.b2, frame3 := f.b3, frame4 := f.b4 } := by
  rw [List.append_assoc, ← swStart_answers p] at h
  obtain ⟨hcode, hanswers, -, -, hregs, -⟩ := responseCheckFollowsItsTable p _ hs _ code hcheck h
  obtain ⟨hrest, hread⟩ := hframe (swStorePresence p (swStart p s)) rest hanswers
  refine ⟨hrest, hread.trans ?_⟩
  rw [swStorePresence]
  simp [hcode]

theorem exec_swRead_of_heard {hs as rest : List Level} {code : Byte} {f : Frame}
    (hcheck : Handshake Config.params hs code) (hframe : ReadAsFrame Config.params as f) {s : State}
    (h : s.answers = hs ++ as ++ rest) : ∃ t, exec .swRead s = .next t ∧ ReadingOf code f rest s t := by
  obtain ⟨hanswers, hregs⟩ := swFrameRead_of_heard hcheck hframe (s := beginCommand s) h
  obtain ⟨t, hexec, hckok, htaken, hkept, -⟩ := swReadAcceptsByTheChecksum s
  obtain ⟨_, _, _, hvalidate⟩ := swValidate_frame (swFrameRead Config.params (beginCommand s))
  have ht := Host.Outcome.next.inj ((exec_swRead s).symm.trans hexec)
  rw [hvalidate, hanswers, hregs] at ht
  have hpres : t.regs.pres = code := by rw [← ht]; rfl
  have hframeOf : frameOf t = f := by rw [← ht]; rfl
  have hrest : t.answers = rest := by rw [← ht]; rfl
  obtain ⟨h0, h1, h2, h3, h4⟩ := Frame.mk.inj hframeOf
  rw [h0, h1, h2, h3, h4] at hckok
  rw [h0, h2] at htaken
  exact ⟨t, hexec, hpres, hframeOf, hrest, hckok, fun hsum => htaken (hckok.mpr hsum),
    fun hsum => hkept (by simpa [hsum] using hckok)⟩

/-- Settles O34: the response check's row, then the forty bits as five bytes. -/
theorem swReadReadsBackTheFrame : Obligations.SwReadReadsBackTheFrame := by
  intro s hs rest code f m n hcheck hreached h
  obtain ⟨t, hexec, hreading⟩ := exec_swRead_of_heard hcheck (readAsFrame_frameAnswers rfl rfl hreached) h
  exact ⟨t, hexec, hreading.pres, hreading.frame, hreading.answers, hreading.ckok, hreading.taken, hreading.kept⟩

/-! ### A stuck line (R119) -/

/-- A byte that is aborted in its first bit reads 0 and takes no more answers. -/
theorem readAsByte_zero (h8 : p.byteBits = 8) (hstart : 0 < p.nBitStart) (hend : 0 < p.nBitEnd) {as : List Level}
    {es : List Event}
    (habort : ∀ (t : State) (rest : List Level), t.answers = as ++ rest → Returns none es rest t (swReadBit p t)) :
    ReadAsByte p as 0 :=
  fun _ rest hs => swReadByte_of_abort (b := 0) (m := fun _ => 0) (n := fun _ => 0) (k := 0) h8
    (fun _ _ => ⟨hstart, hend⟩) (by decide) hs fun t ht => habort t rest ht

theorem readAsFrame_zero (h5 : p.frameBytes = 5) {as : List Level} (h : ReadAsByte p as 0) :
    ReadAsFrame p (as ++ as ++ as ++ as ++ as) { b0 := 0, b1 := 0, b2 := 0, b3 := 0, b4 := 0 } :=
  readAsFrame_of_bytes h5 h h h h h

theorem exec_swRead_of_zero_frame {hs as rest : List Level} {code : Byte} (hcheck : Handshake Config.params hs code)
    (hbyte : ReadAsByte Config.params as 0) {s : State} (h : s.answers = hs ++ (as ++ as ++ as ++ as ++ as) ++ rest) :
    ∃ t, exec .swRead s = .next t ∧ t.answers = rest ∧ t.regs.pres = code ∧
      frameOf t = { b0 := 0, b1 := 0, b2 := 0, b3 := 0, b4 := 0 } ∧ t.regs.hum = 0 ∧ t.regs.temp = 0 ∧
      t.flags.ckok = true := by
  obtain ⟨t, hexec, hreading⟩ := exec_swRead_of_heard hcheck (readAsFrame_zero rfl hbyte) h
  have hsum : (0 : Byte) = checksum 0 0 0 0 := by decide
  obtain ⟨hhum, htemp⟩ := hreading.taken hsum
  exact ⟨t, hexec, hreading.answers, hreading.pres, hreading.frame, hhum, htemp, hreading.ckok.mpr hsum⟩

/-- Settles O36: no sensor, the guard exhausted, then every byte aborted in the second wait of its first bit. -/
theorem lineStuckHighReadsAsZero : Obligations.LineStuckHighReadsAsZero := by
  intro s rest h
  have hbyte : ReadAsByte Config.params ([Level.high, .high] ++ List.replicate Config.params.nBitEnd .high) 0 :=
    readAsByte_zero rfl (by decide) (by decide) fun t rest ht =>
      swReadBit_returns_abort_at_end (m := 0) (b := .high) (by decide) (by simpa using ht)
  refine exec_swRead_of_zero_frame .noSensorTimeout hbyte (h.trans ?_)
  congr 1
  refine (List.eq_replicate_iff.mpr ⟨?_, ?_⟩).symm
  · simp
    omega
  · simp [or_imp]

/-- Settles O37: the two samples and the guard all Low, then every byte aborted in the first wait of its first bit. -/
theorem lineStuckLowReadsAsZero : Obligations.LineStuckLowReadsAsZero := by
  intro s rest h
  have hbyte : ReadAsByte Config.params (List.replicate Config.params.nBitStart .low) 0 :=
    readAsByte_zero rfl (by decide) (by decide) fun _ _ ht => swReadBit_returns_abort_at_start ht
  refine exec_swRead_of_zero_frame (.error 0 (by decide)) hbyte (h.trans ?_)
  congr 1
  refine (List.eq_replicate_iff.mpr ⟨?_, ?_⟩).symm
  · simp
    omega
  · simp [or_imp]

end Sys2Proof.Machine
end

section
/-! SUPPORT. Proof of O35 (R183): a run of `SW.READ` is determined by the levels it samples. So a run the reference sensor answers is
the run in which the sensor's answers are listed. -/

namespace Sys2Proof.Machine

open Sys2Proof Sys2Proof.Claims

variable {p : Params}

/-! ### The levels a run samples on `SW` -/

/-- The level an event samples on `SW`. -/
def swLevel : Event → Option Level
  | .sample .sw v => some v
  | _ => none

/-- The levels sampled on `SW`, in order. -/
def swLevels (es : List Event) : List Level := es.filterMap swLevel

theorem swLevels_append (es fs : List Event) : swLevels (es ++ fs) = swLevels es ++ swLevels fs :=
  List.filterMap_append

/-- Samples of `SW` and delays only. -/
def SwOnly (es : List Event) : Prop := ∀ e ∈ es, (∃ v, e = .sample .sw v) ∨ ∃ n, e = .delay n

theorem SwOnly.append {es fs : List Event} (h : SwOnly es) (k : SwOnly fs) : SwOnly (es ++ fs) :=
  fun e he => (List.mem_append.mp he).elim (h e) (k e)

theorem Heard.append {vs ws as bs cs : List Level} (h : Heard vs as bs) (k : Heard ws bs cs) :
    Heard (vs ++ ws) as cs := by
  induction h with
  | nothing => exact k
  | listed v _ ih => exact .listed v (ih k)
  | free v _ ih => exact .free v (ih k)

/-! ### Operations a run can repeat -/

/-- `s` but for what listening changes: the time, the trace, the answers still to come and the draws. -/
def State.core (s : State) : State := { s with tick := 0, trace := [], answers := [], draws := 0 }

/-- `op` listens to `SW`, and does the same again from any state with the same core in which the levels it sampled are the answers
listed. -/
def Replayable {α : Type} (op : State → α × State) : Prop :=
  ∀ s, ∃ es, SwOnly es ∧ (op s).2.trace = s.trace ++ es ∧ Heard (swLevels es) s.answers (op s).2.answers ∧
    ∀ (s' : State) (rest : List Level), s'.core = s.core → s'.answers = swLevels es ++ rest →
      (op s').1 = (op s).1 ∧ (op s').2.core = (op s).2.core ∧ (op s').2.trace = s'.trace ++ es ∧
        (op s').2.answers = rest

/-- What records nothing and looks at the core only. -/
theorem replayable_silent {α : Type} {value : State → α} {f : State → State} (hvalue : ∀ s, value s = value s.core)
    (hcore : ∀ s, (f s).core = (f s.core).core) (htrace : ∀ s, (f s).trace = s.trace)
    (hanswers : ∀ s, (f s).answers = s.answers) : Replayable fun s => (value s, f s) := by
  refine fun s => ⟨[], by simp [SwOnly], by simp [htrace], (hanswers s).symm ▸ .nothing _, fun s' rest hs hrest => ?_⟩
  refine ⟨?_, ?_, by simp [htrace], (hanswers s').trans hrest⟩
  · exact (hvalue s').trans ((congrArg value hs).trans (hvalue s).symm)
  · exact (hcore s').trans ((congrArg (fun u => (f u).core) hs).trans (hcore s).symm)

theorem replayable_pure {α : Type} (a : α) : Replayable fun s => (a, s) :=
  replayable_silent (f := id) (fun _ => rfl) (fun _ => rfl) (fun _ => rfl) (fun _ => rfl)

theorem Replayable.bind {α β : Type} {f : State → α × State} {k : α → State → β × State} (hf : Replayable f)
    (hk : ∀ a, Replayable (k a)) : Replayable fun s => k (f s).1 (f s).2 := by
  intro s
  obtain ⟨es, hes, htrace, hheard, hagain⟩ := hf s
  obtain ⟨fs, hfs, ktrace, kheard, kagain⟩ := hk (f s).1 (f s).2
  refine ⟨es ++ fs, hes.append hfs, by simp [ktrace, htrace], ?_, fun s' rest hs hrest => ?_⟩
  · rw [swLevels_append]
    exact hheard.append kheard
  · rw [swLevels_append, List.append_assoc] at hrest
    obtain ⟨h1, hcore, htrace', hanswers'⟩ := hagain s' _ hs hrest
    obtain ⟨k1, kcore, ktrace', kanswers'⟩ := kagain (f s').2 rest hcore hanswers'
    simp only [h1]
    exact ⟨k1, kcore, by rw [ktrace', htrace', List.append_assoc], kanswers'⟩

theorem Replayable.congr {α : Type} {f g : State → α × State} (hf : Replayable f) (h : ∀ s, g s = f s) : Replayable g :=
  (funext h : g = f) ▸ hf

theorem replayable_delayUs (p : Params) (n : Nat) : Replayable fun s => ((), delayUs p n s) :=
  fun _ => ⟨[.delay n], by simp [SwOnly], rfl, .nothing _, fun _ _ hs hrest => ⟨rfl, hs, rfl, hrest⟩⟩

theorem sampleLine_core (l : BiLine) (s : State) : (sampleLine l s).2.core = s.core := by
  cases h : s.answers with
  | nil => rw [sampleLine_free h]; rfl
  | cons v rest => rw [sampleLine_listed h]; rfl

theorem replayable_sampleLine : Replayable (sampleLine .sw) := by
  refine fun s => ⟨[.sample .sw (sampleLine .sw s).1], by simp [SwOnly], (sampleLine_trace_tick .sw s).1,
    (Heard.nothing _).after_sampleLine, fun s' rest hs hrest => ?_⟩
  rw [sampleLine_core .sw s, ← hs, sampleLine_listed hrest]
  exact ⟨rfl, rfl, rfl, rfl⟩

/-- A sample after a delay. -/
theorem replayable_sample_after (p : Params) (n : Nat) : Replayable fun s => sampleLine .sw (delayUs p n s) :=
  (replayable_delayUs p n).bind (k := fun _ => sampleLine .sw) fun _ => replayable_sampleLine

theorem replayable_spinUntil (v : Level) (n : Nat) : Replayable (spinUntil .sw v n) := by
  induction n with
  | zero => exact replayable_pure Spin.exhausted
  | succ n ih =>
    refine replayable_sampleLine.bind
      (k := fun a s => if a = v then (Spin.reached, s) else spinUntil .sw v n s) fun a => ?_
    split
    · exact replayable_pure Spin.reached
    · exact ih

theorem replayable_swProbe (p : Params) : Replayable (swProbe p) := by
  have hsecond : Replayable fun s =>
      let second := sampleLine .sw (delayUs p p.tRespHighUs s)
      match second.1 with
      | .high => (p.presOk, second.2)
      | .low => (p.presErr, second.2) := by
    refine (replayable_sample_after p p.tRespHighUs).bind (k := fun second s => match second with
      | .high => (p.presOk, s)
      | .low => (p.presErr, s)) fun second => ?_
    cases second <;> exact replayable_pure _
  refine (replayable_sample_after p p.tRespWaitUs).bind (k := fun first s => match first with
    | .high => (p.presNone, s)
    | .low =>
      let second := sampleLine .sw (delayUs p p.tRespHighUs s)
      match second.1 with
      | .high => (p.presOk, second.2)
      | .low => (p.presErr, second.2)) fun first => ?_
  cases first with
  | high => exact replayable_pure p.presNone
  | low => exact hsecond

/-- A spin-wait and what follows each outcome. -/
theorem replayable_spinUntil_then {α : Type} (v : Level) (n : Nat) {onReached onExhausted : State → α × State}
    (hreached : Replayable onReached) (hexhausted : Replayable onExhausted) :
    Replayable fun s => match spinUntil .sw v n s with
      | (.exhausted, t) => onExhausted t
      | (.reached, t) => onReached t := by
  refine ((replayable_spinUntil v n).bind (k := fun r t => match r with
    | .exhausted => onExhausted t
    | .reached => onReached t) fun r => ?_).congr fun s => ?_
  · cases r with
    | exhausted => exact hexhausted
    | reached => exact hreached
  · obtain ⟨_ | _, t⟩ := spinUntil .sw v n s <;> rfl

theorem replayable_swCheckResponse (p : Params) : Replayable (swCheckResponse p) :=
  (replayable_swProbe p).bind fun code =>
    replayable_spinUntil_then .low p.nResp (replayable_pure code) (replayable_pure p.presTimeout)

theorem replayable_swReadBit (p : Params) : Replayable (swReadBit p) :=
  replayable_spinUntil_then .high p.nBitStart
    ((replayable_sample_after p p.tBitSampleUs).bind fun b =>
      replayable_spinUntil_then .low p.nBitEnd (replayable_pure (some b)) (replayable_pure none))
    (replayable_pure none)

theorem replayable_orBit (p : Params) (r : Level) (j : Nat) : Replayable fun s => ((), orBit p r j s) :=
  replayable_silent (fun _ => rfl) (fun _ => rfl) (fun _ => rfl) (fun _ => rfl)

theorem replayable_swReadBits (p : Params) (js : List Nat) : Replayable (swReadBits p js) := by
  induction js with
  | nil => exact replayable_pure true
  | cons j js ih =>
    refine ((replayable_swReadBit p).bind (k := fun r t => match r with
      | none => (false, t)
      | some b => swReadBits p js (orBit p b j t)) fun r => ?_).congr fun s => ?_
    · cases r with
      | none => exact replayable_pure false
      | some b => exact (replayable_orBit p b j).bind fun _ => ih
    · rw [swReadBits]
      obtain ⟨_ | b, t⟩ := swReadBit p s <;> rfl

theorem replayable_swReadByte (p : Params) : Replayable (swReadByte p) := by
  have hclear : Replayable fun s => ((), clearV s) :=
    replayable_silent (fun _ => rfl) (fun _ => rfl) (fun _ => rfl) (fun _ => rfl)
  have hbyte : Replayable fun s => (s.hidden.v, s) :=
    replayable_silent (f := id) (fun _ => rfl) (fun _ => rfl) (fun _ => rfl) (fun _ => rfl)
  refine ((hclear.bind fun _ => replayable_swReadBits p (List.range p.byteBits)).bind (k := fun r t => match r with
    | true => (t.hidden.v, t)
    | false => (0, t)) fun r => ?_).congr fun s => ?_
  · cases r with
    | true => exact hbyte
    | false => exact replayable_pure 0
  · rw [swReadByte]
    obtain ⟨_ | _, t⟩ := swReadBits p (List.range p.byteBits) (clearV s) <;> rfl

theorem replayable_swReadInto (p : Params) (k : FrameIx) : Replayable fun s => ((), swReadInto p k s) := by
  refine (replayable_swReadByte p).bind (k := fun b t => ((), setFrame k b t)) fun b => ?_
  cases k <;> exact replayable_silent (fun _ => rfl) (fun _ => rfl) (fun _ => rfl) (fun _ => rfl)

theorem replayable_swReadFrame (p : Params) : Replayable fun s => ((), swReadFrame p s) := by
  unfold swReadFrame
  induction frameOrder p with
  | nil => exact replayable_pure ()
  | cons k ks ih => exact (replayable_swReadInto p k).bind fun _ => ih

/-- What `SW.READ` does between its start pulse and its acceptance test. -/
theorem replayable_swFrame (p : Params) : Replayable fun s => ((), swReadFrame p (swStorePresence p s)) := by
  have hpres : Replayable fun s => ((), swStorePresence p s) :=
    (replayable_swCheckResponse p).bind (k := fun c t => ((), setPres c t)) fun _ =>
      replayable_silent (fun _ => rfl) (fun _ => rfl) (fun _ => rfl) (fun _ => rfl)
  exact hpres.bind fun _ => replayable_swReadFrame p

/-! ### The command -/

theorem swStart_core (p : Params) (s : State) : (swStart p s).core =
    { s.core with pins := { s.pins with swMode := .input, swLatch := .high } } := by
  simp [swStart, setOutput, setInput, setMode, driveLine, setLatch, delayMs, delayUs, advanceTick, emit, State.core]

theorem endCommand_swValidate_core (s : State) :
    (endCommand (swValidate s)).core = (endCommand (swValidate s.core)).core := by
  have haccepted : frameAccepted s.core = frameAccepted s := rfl
  rw [swValidate, swValidate, haccepted]
  cases frameAccepted s <;> rfl

theorem swValidate_trace_answers (s : State) :
    (swValidate s).trace = s.trace ∧ (swValidate s).answers = s.answers := by
  obtain ⟨_, _, _, h⟩ := swValidate_frame s
  rw [h]
  exact ⟨rfl, rfl⟩

/-- A run of `SW.READ`, and the same run once more with the levels it sampled listed as the answers. -/
theorem exec_swRead_replays (s : State) : ∃ (t : State) (es : List Event), exec .swRead s = .next t ∧
    t.trace = s.trace ++ (swStartEvents Config.params ++ es) ∧ SwOnly es ∧ Heard (swLevels es) s.answers t.answers ∧
    ∀ rest, ∃ t', exec .swRead { s with answers := swLevels es ++ rest } = .next t' ∧ t'.core = t.core ∧
      t'.trace = t.trace ∧ t'.answers = rest := by
  obtain ⟨es, hes, htrace, hheard, hagain⟩ := replayable_swFrame Config.params (swStart Config.params (beginCommand s))
  obtain ⟨hvtrace, hvanswers⟩ := swValidate_trace_answers (swFrameRead Config.params (beginCommand s))
  refine ⟨_, es, exec_swRead s, ?_, hes, ?_, fun rest => ⟨_, exec_swRead _, ?_⟩⟩
  · rw [endCommand_trace, hvtrace]
    refine htrace.trans ?_
    simp
  · rw [endCommand_answers, hvanswers]
    rw [swStart_answers] at hheard
    exact hheard
  · have hcore : (swStart Config.params (beginCommand { s with answers := swLevels es ++ rest })).core =
        (swStart Config.params (beginCommand s)).core := by
      rw [swStart_core, swStart_core]
      rfl
    obtain ⟨-, hcore', htrace', hanswers'⟩ := hagain _ rest hcore (by simp)
    obtain ⟨hvtrace', hvanswers'⟩ :=
      swValidate_trace_answers (swFrameRead Config.params (beginCommand { s with answers := swLevels es ++ rest }))
    refine ⟨?_, ?_, by rw [endCommand_answers, hvanswers']; exact hanswers'⟩
    · have hread : (swFrameRead Config.params (beginCommand { s with answers := swLevels es ++ rest })).core =
          (swFrameRead Config.params (beginCommand s)).core := hcore'
      rw [endCommand_swValidate_core, hread, ← endCommand_swValidate_core]
    · rw [endCommand_trace, endCommand_trace, hvtrace, hvtrace']
      refine htrace'.trans (.trans ?_ htrace.symm)
      rw [swStart_trace, swStart_trace]
      rfl

/-! ### The sensor's answers (R183) -/

theorem answeredBy_append (env : Env) (tr es fs : List Event) :
    answeredBy env tr (es ++ fs) = (answeredBy env tr es && answeredBy env (tr ++ es) fs) := by
  induction es generalizing tr with
  | nil => simp [answeredBy]
  | cons e es ih => simp [answeredBy, ih, Bool.and_assoc]

/-- The start pulse ends with the release of `SW`: no sample of `SW` since (R110). -/
theorem swSamplesSinceInput_swStart (p : Params) (tr : List Event) :
    swSamplesSinceInput (tr ++ swStartEvents p) = 0 := by
  rw [swSamplesSinceInput, List.foldl_append]
  rfl

theorem answeredBy_swStart (env : Env) (p : Params) (tr : List Event) : answeredBy env tr (swStartEvents p) = true := rfl

theorem swSamplesSinceInput_sample (tr : List Event) (v : Level) :
    swSamplesSinceInput (tr ++ [.sample .sw v]) = swSamplesSinceInput tr + 1 := by
  simp [swSamplesSinceInput]

theorem swSamplesSinceInput_delay (tr : List Event) (n : Nat) :
    swSamplesSinceInput (tr ++ [.delay n]) = swSamplesSinceInput tr := by
  simp [swSamplesSinceInput]

/-- Of two lists one begins the other. -/
def Comparable (vs as : List Level) : Prop := (∃ more, as = vs ++ more) ∨ ∃ more, vs = as ++ more

variable {env : Env} {table : List Level}

/-- `env` answers samples of `SW` by a table, as far as it goes, counting from the last release of `SW`. -/
def AnswersByTable (env : Env) (table : List Level) : Prop :=
  ∀ tr v, table[swSamplesSinceInput tr]? = some v → env .sw tr = v

theorem answersByTable_envSensor (other : Env) (f : Frame) (g : Nat) (m n : Nat → Nat) :
    AnswersByTable (envSensor other f g m n) (sensorAnswers f g m n) := by
  intro tr v h
  rw [envSensor, h, Option.getD_some]

/-- The levels of a run that such an environment answers are the table's, as far as both go. -/
theorem comparable_of_answeredBy (henv : AnswersByTable env table) {es : List Event} (hes : SwOnly es)
    {tr : List Event} (h : answeredBy env tr es = true) :
    Comparable (swLevels es) (table.drop (swSamplesSinceInput tr)) := by
  induction es generalizing tr with
  | nil => exact .inl ⟨_, rfl⟩
  | cons e es ih =>
    have hrest : SwOnly es := fun e he => hes e (List.mem_cons_of_mem _ he)
    obtain ⟨v, rfl⟩ | ⟨n, rfl⟩ := hes e List.mem_cons_self
    · simp only [answeredBy, Bool.and_eq_true, beq_iff_eq] at h
      obtain ⟨hv, h⟩ := h
      have hnext := ih hrest h
      rw [swSamplesSinceInput_sample] at hnext
      show Comparable (v :: swLevels es) _
      cases hk : table[swSamplesSinceInput tr]? with
      | none =>
        rw [List.drop_eq_nil_of_le (List.getElem?_eq_none_iff.mp hk)]
        exact .inr ⟨_, rfl⟩
      | some a =>
        obtain rfl : v = a := hv.trans (henv tr a hk)
        obtain ⟨hlt, rfl⟩ := List.getElem?_eq_some_iff.mp hk
        rw [List.drop_eq_getElem_cons hlt]
        exact hnext.imp (fun ⟨more, hmore⟩ => ⟨more, by rw [hmore]; rfl⟩) fun ⟨more, hmore⟩ => ⟨more, by rw [hmore]; rfl⟩
    · simp only [answeredBy, Bool.true_and] at h
      have hnext := ih hrest h
      rw [swSamplesSinceInput_delay] at hnext
      exact hnext

/-- Such an environment answers a run that samples what its table says. -/
theorem answeredBy_of_swLevels (henv : AnswersByTable env table) {es : List Event} (hes : SwOnly es) {tr : List Event}
    {more : List Level} (h : table.drop (swSamplesSinceInput tr) = swLevels es ++ more) :
    answeredBy env tr es = true := by
  induction es generalizing tr with
  | nil => rfl
  | cons e es ih =>
    have hrest : SwOnly es := fun e he => hes e (List.mem_cons_of_mem _ he)
    obtain ⟨v, rfl⟩ | ⟨n, rfl⟩ := hes e List.mem_cons_self
    · have hdrop : table.drop (swSamplesSinceInput tr) = v :: (swLevels es ++ more) := h
      have hv : env .sw tr = v := henv tr v (by rw [← List.head?_drop, hdrop, List.head?_cons])
      have htail : table.drop (swSamplesSinceInput (tr ++ [.sample .sw v])) = swLevels es ++ more := by
        rw [swSamplesSinceInput_sample, ← List.tail_drop, hdrop, List.tail_cons]
      simp [answeredBy, hv, ih hrest htail]
    · have hsame : table.drop (swSamplesSinceInput (tr ++ [.delay n])) = swLevels es ++ more := by
        rw [swSamplesSinceInput_delay]
        exact h
      simp [answeredBy, ih hrest hsame]

/-- Answers are either all used up or exactly as many as there were samples. -/
theorem Heard.eq_append_or_nil {vs as as' : List Level} (h : Heard vs as as') : as = vs ++ as' ∨ as' = [] := by
  induction h with
  | nothing => exact .inl rfl
  | listed v _ ih => exact ih.imp_left (congrArg (v :: ·))
  | free v hfree ih =>
    cases hfree with
    | nothing => exact .inr rfl
    | free _ h => exact .inr (by simpa using ih)

theorem ReadingOf.of_core {code : Byte} {f : Frame} {rest rest' : List Level} {s s' t t' : State}
    (h : ReadingOf code f rest s' t') (hs : s'.core = s.core) (ht : t'.core = t.core) (hrest : t.answers = rest') :
    ReadingOf code f rest' s t := by
  have hsregs : s'.regs = s.regs := show s'.core.regs = s.core.regs by rw [hs]
  have htregs : t'.regs = t.regs := show t'.core.regs = t.core.regs by rw [ht]
  have htflags : t'.flags = t.flags := show t'.core.flags = t.core.flags by rw [ht]
  obtain ⟨hpres, hframe, -, hckok, htaken, hkept⟩ := h
  have hframe' : frameOf t = frameOf t' := by rw [frameOf, frameOf, htregs]
  rw [htregs] at hpres
  rw [htflags] at hckok
  rw [htregs] at htaken
  rw [htregs, hsregs] at hkept
  exact ⟨hpres, hframe'.trans hframe, hrest, hckok, htaken, hkept⟩

/-- Settles O35: the levels a run answered by the sensor samples and the sensor's table begin alike, so the run is, but for the answers
left, one in which the table is listed. -/
theorem swReadAgainstTheReferenceSensor : Obligations.SwReadAgainstTheReferenceSensor := by
  intro other f g m n s hfits
  obtain ⟨hg, hreached⟩ := hfits
  have henv := answersByTable_envSensor other f g m n
  have hsensor : ∀ (u : State) (rest : List Level), u.answers = sensorAnswers f g m n ++ rest →
      ∃ t, exec .swRead u = .next t ∧ ReadingOf Config.params.presOk f rest u t := fun u rest hu =>
    exec_swRead_of_heard (.ok g hg) (readAsFrame_frameAnswers rfl rfl hreached) hu
  refine ⟨fun rest h => ?listed, fun t es hexec htrace hanswered => ?answered⟩
  case listed =>
    obtain ⟨t, es, hexec, htrace, hes, hheard, hagain⟩ :=
      exec_swRead_replays { s with answers := sensorAnswers f g m n ++ [.low] }
    obtain ⟨u, huexec, hureading⟩ := hsensor { s with answers := sensorAnswers f g m n ++ [.low] } [.low] rfl
    obtain rfl := Host.Outcome.next.inj (hexec.symm.trans huexec)
    have hlevels : swLevels es = sensorAnswers f g m n := by
      rw [hureading.answers] at hheard
      simpa [eq_comm] using hheard.eq_append_or_nil
    obtain ⟨t', hexec', -, htrace', hanswers'⟩ := hagain rest
    rw [hlevels, ← h] at hexec'
    refine ⟨t', _, hexec', htrace'.trans htrace, hanswers', ?_⟩
    rw [answeredBy_append, answeredBy_swStart, Bool.true_and]
    refine answeredBy_of_swLevels henv hes (more := []) ?_
    rw [swSamplesSinceInput_swStart, hlevels, List.drop_zero, List.append_nil]
  case answered =>
    obtain ⟨u, fs, huexec, hutrace, hfs, -, hagain⟩ := exec_swRead_replays s
    obtain rfl := Host.Outcome.next.inj (hexec.symm.trans huexec)
    obtain rfl : es = swStartEvents Config.params ++ fs := List.append_cancel_left (htrace.symm.trans hutrace)
    rw [answeredBy_append, answeredBy_swStart, Bool.true_and] at hanswered
    have hcomparable := comparable_of_answeredBy henv hfs hanswered
    rw [swSamplesSinceInput_swStart, List.drop_zero] at hcomparable
    obtain ⟨left, rest, hlist⟩ : ∃ left rest, swLevels fs ++ left = sensorAnswers f g m n ++ rest := by
      obtain ⟨more, hmore⟩ | ⟨more, hmore⟩ := hcomparable
      · exact ⟨more, [], by rw [hmore, List.append_nil]⟩
      · exact ⟨[], more, by rw [hmore, List.append_nil]⟩
    obtain ⟨t', hexec', hcore, -, -⟩ := hagain left
    obtain ⟨u', huexec', hureading⟩ := hsensor { s with answers := swLevels fs ++ left } rest hlist
    obtain rfl := Host.Outcome.next.inj (hexec'.symm.trans huexec')
    obtain ⟨hpres, hframe, -, hckok, htaken, hkept⟩ := hureading.of_core (s := s) rfl hcore rfl
    exact ⟨hpres, hframe, hckok, htaken, hkept⟩

end Sys2Proof.Machine
end

section
/-! SUPPORT. Proofs of O56, O57, O58 and O60 (R185 to R188): the static reference chip following the engine's transactions bit by bit. -/

namespace Sys2Proof.Machine

open Sys2Proof Sys2Proof.Claims

variable {p : Params} {c : Chip}

/-! ### Following events (R185) -/

theorem follow_append (c : Chip) (es fs : List Event) : c.follow (es ++ fs) = (c.follow es).bind fun d => d.follow fs := by
  induction es generalizing c with
  | nil => rfl
  | cons e es ih =>
    rw [List.cons_append, Chip.follow, Chip.follow]
    cases c.event e with
    | none => rfl
    | some d => exact ih d

theorem follow_append_of_some {es : List Event} {d : Chip} (h : c.follow es = some d) (fs : List Event) :
    c.follow (es ++ fs) = d.follow fs := by
  rw [follow_append, h, Option.bind_some]

theorem follow_cons_of_some {e : Event} {d : Chip} (h : c.event e = some d) (es : List Event) :
    c.follow (e :: es) = d.follow es := by
  rw [Chip.follow, h]

theorem follow_cons_of_none {e : Event} (h : c.event e = none) (es : List Event) : c.follow (e :: es) = none := by
  rw [Chip.follow, h]

/-- Of a clock pulse inside a transaction the chip sees the rising edge (R186). -/
theorem follow_pulseEvents (hin : c.inTx = true) : c.follow (pulseEvents p) = c.rise := by
  have hrise : c.event (.drive .clk .high) = c.rise := by rw [Chip.event, if_pos hin]
  cases h : c.rise with
  | none => exact follow_cons_of_none (hrise.trans h) _
  | some d => exact follow_cons_of_some (hrise.trans h) _

/-! ### Bits the host sends -/

theorem getLsbD_lowBits (r : Byte) (n i : Nat) : (lowBits r n).getLsbD i = (decide (i < n) && r.getLsbD i) := by
  have hfits : r.toNat % 2 ^ n < 256 := (Nat.mod_le _ _).trans_lt r.isLt
  simp [lowBits, BitVec.getLsbD, Nat.mod_eq_of_lt hfits, Nat.testBit_mod_two_pow]

/-- Bit `n` of `r` joins the `n` bits below it. -/
theorem lowBits_or_atBit (r : Byte) (n : Nat) : lowBits r n ||| atBit (bitLevel r n) n = lowBits r (n + 1) := by
  refine BitVec.eq_of_getLsbD_eq fun i hi => ?_
  simp only [atBit, BitVec.getLsbD_or, BitVec.getLsbD_shiftLeft, getLsbD_lowBits, getLsbD_levelByte_bitLevel, hi,
    decide_true, Bool.true_and]
  obtain hlow | rfl | hhigh := Nat.lt_trichotomy i n
  · simp [hlow, Nat.lt_succ_of_lt hlow]
  · simp
  · simp [hhigh.not_gt, show ¬ i < n + 1 by omega, show i - n ≠ 0 by omega]

/-- `taking l b k`: the chip with `l` on the line, taking a byte of which it has the `k` low bits, `b`. -/
structure TakesByte (taking : Level → Byte → Nat → Chip) : Prop where
  inTx : ∀ l b k, (taking l b k).inTx = true
  drive : ∀ l b k v, (taking l b k).event (.drive .dat v) = some (taking v b k)
  rise : ∀ l b k, k < 8 → (taking l b k).rise = some (taking l (b ||| atBit l k) (k + 1))

/-- The bits of `v` sent to such a chip. -/
theorem TakesByte.follow_bitsOutEvents {taking : Level → Byte → Nat → Chip} (h : TakesByte taking) (p : Params)
    (v : Byte) (l : Level) {n : Nat} (hn : n ≤ 8) :
    ∃ l', (taking l 0 0).follow (bitsOutEvents p v n) = some (taking l' (lowBits v n) n) := by
  induction n with
  | zero => exact ⟨l, by rw [lowBits_zero]; rfl⟩
  | succ n ih =>
    obtain ⟨l', hl'⟩ := ih (by omega)
    have hbits : bitsOutEvents p v (n + 1) = bitsOutEvents p v n ++ .drive .dat (bitLevel v n) :: pulseEvents p := by
      simp [bitsOutEvents, List.range_succ]
    refine ⟨bitLevel v n, ?_⟩
    rw [hbits, follow_append_of_some hl', follow_cons_of_some (h.drive _ _ _ _),
      follow_pulseEvents (h.inTx _ _ _), h.rise _ _ _ (by omega), lowBits_or_atBit]

theorem TakesByte.follow_writeByteEvents {taking : Level → Byte → Nat → Chip} (h : TakesByte taking)
    (h8 : p.byteBits = 8) (v : Byte) (l : Level) (hturn : c.event (.mode .dat .output) = some (taking l 0 0)) :
    ∃ l', c.follow (writeByteEvents p v) = some (taking l' v 8) := by
  obtain ⟨l', hl'⟩ := h.follow_bitsOutEvents p v l le_rfl
  refine ⟨l', ?_⟩
  rw [writeByteEvents_eq_bitsOutEvents, follow_cons_of_some hturn, h8, hl', lowBits_eight]

/-! ### The address byte and a written data byte (R186) -/

/-- `c` in a transaction, having taken `k` bits of an address. -/
def Chip.takingAddress (c : Chip) (l : Level) (b : Byte) (k : Nat) : Chip :=
  { c with datLevel := l, datDriven := true, inTx := true, edges := k, address := b, data := 0, reads := 0 }

/-- `c` in a transaction to the address `a`, having taken `k` bits of a data byte. -/
def Chip.takingData (c : Chip) (a : Byte) (l : Level) (b : Byte) (k : Nat) : Chip :=
  { c.takingAddress l a (8 + k) with data := b }

theorem takesByte_takingAddress (c : Chip) : TakesByte c.takingAddress where
  inTx _ _ _ := rfl
  drive _ _ _ _ := rfl
  rise _ _ k hk := by rw [Chip.rise, if_pos (show (c.takingAddress _ _ k).edges < 8 from hk)]; rfl

theorem takesByte_takingData {a : Byte} (hmodel : chipModels a = true) (hwrite : isReadAddr a = false) (c : Chip) :
    TakesByte (c.takingData a) where
  inTx _ _ _ := rfl
  drive _ _ _ _ := rfl
  rise l b k _ := by simp [Chip.rise, Chip.takingData, Chip.takingAddress, hmodel, hwrite, Nat.add_assoc]

/-- The start of a transaction and its address byte. -/
theorem follow_address (h8 : p.byteBits = 8) (hidle : c.inTx = false) (a : Byte) :
    ∃ l, c.follow ([.drive .clk .low, .drive .ce .high] ++ writeByteEvents p a) = some (c.takingAddress l a 8) := by
  have hbegin : c.follow [.drive .clk .low, .drive .ce .high] =
      some { c with inTx := true, edges := 0, address := 0, data := 0, reads := 0 } := by
    simp [Chip.follow, Chip.event, hidle]
  obtain ⟨l, hl⟩ := (takesByte_takingAddress c).follow_writeByteEvents h8 a c.datLevel
    (c := { c with inTx := true, edges := 0, address := 0, data := 0, reads := 0 }) rfl
  exact ⟨l, by rw [follow_append_of_some hbegin, hl]⟩

theorem follow_ce_low (hin : c.inTx = true) : c.follow [.drive .ce .low] = some c.commit := by
  have hevent : c.event (.drive .ce .low) = some c.commit := by rw [Chip.event, if_pos hin]
  exact follow_cons_of_some hevent []

/-- The end of a write transaction. -/
theorem commit_takingData {a : Byte} (hmodel : chipModels a = true) (hwrite : isReadAddr a = false) (c : Chip)
    (l : Level) (v : Byte) : (c.takingData a l v 8).commit =
      { c.takingData a l v 8 with inTx := false, reg := chipAfterWrite c.reg a v } := by
  have hcomplete : (8 + 8 == 16 && chipModels a && !isReadAddr a) = true := by simp [hmodel, hwrite]
  rw [Chip.commit, chipAfterWrite]
  refine (if_pos hcomplete).trans ?_
  show (if regIndex a = 7 then _ else if c.reg[7].getLsbD 7 = true then _ else _) = _
  split_ifs <;> rfl

/-- A write transaction to an address the chip models (R186). -/
theorem follow_writeRegisterEvents (h8 : p.byteBits = 8) (hidle : c.inTx = false) {a : Byte}
    (hmodel : chipModels a = true) (hwrite : isReadAddr a = false) (v : Byte) :
    ∃ d, c.follow (writeRegisterEvents p a v) = some d ∧ d.inTx = false ∧ d.reg = chipAfterWrite c.reg a v := by
  obtain ⟨l, haddress⟩ := follow_address h8 hidle a
  obtain ⟨l', hdata⟩ := (takesByte_takingData hmodel hwrite c).follow_writeByteEvents h8 v l
    (c := c.takingAddress l a 8) rfl
  refine ⟨{ c.takingData a l' v 8 with inTx := false, reg := chipAfterWrite c.reg a v }, ?_, rfl, rfl⟩
  rw [writeRegisterEvents, List.append_assoc, follow_append_of_some haddress, follow_append_of_some hdata,
    follow_ce_low rfl, commit_takingData hmodel hwrite]

/-! ### A data byte the chip sends (R187) -/

/-- `c` in a transaction to the address `a`, having answered `k` bits. -/
def Chip.answering (c : Chip) (a : Byte) (l : Level) (k : Nat) : Chip :=
  { c.takingAddress l a (8 + k) with datDriven := false, reads := k }

theorem event_sample_answering {a : Byte} (hmodel : chipModels a = true) (hread : isReadAddr a = true) (c : Chip)
    (l : Level) (k : Nat) (v : Level) : (c.answering a l k).event (.sample .dat v) =
      if v = bitLevel c.reg[regIndex a] k then some { c.answering a l k with reads := k + 1 } else none := by
  simp [Chip.event, Chip.sampled, Chip.answering, Chip.takingAddress, hmodel, hread]

theorem rise_answering {a : Byte} (hmodel : chipModels a = true) (hread : isReadAddr a = true) (c : Chip) (l : Level)
    (k : Nat) : ({ c.answering a l k with reads := k + 1 } : Chip).rise = some (c.answering a l (k + 1)) := by
  simp [Chip.rise, Chip.answering, Chip.takingAddress, hmodel, hread, Nat.add_assoc]

/-- The next bit: followed if it is the register's, else not. -/
theorem follow_bit_answering {a : Byte} (hmodel : chipModels a = true) (hread : isReadAddr a = true) (p : Params)
    (c : Chip) (l : Level) (k : Nat) (v : Level) :
    (c.answering a l k).follow (.sample .dat v :: pulseEvents p) =
      if v = bitLevel c.reg[regIndex a] k then some (c.answering a l (k + 1)) else none := by
  have hevent := event_sample_answering hmodel hread c l k v
  split_ifs at hevent ⊢ with hv
  · rw [follow_cons_of_some hevent, follow_pulseEvents rfl, rise_answering hmodel hread]
  · exact follow_cons_of_none hevent _

/-- The bits of `r` sampled from such a chip: followed if they are the register's, else not. -/
theorem follow_bits_answering {a : Byte} (hmodel : chipModels a = true) (hread : isReadAddr a = true) (p : Params)
    (c : Chip) (l : Level) (r : Byte) (n : Nat) :
    (c.answering a l 0).follow ((List.range n).flatMap fun i => .sample .dat (bitLevel r i) :: pulseEvents p) =
      if ∀ i < n, bitLevel r i = bitLevel c.reg[regIndex a] i then some (c.answering a l n) else none := by
  induction n with
  | zero => simp [Chip.follow]
  | succ n ih =>
    rw [List.range_succ, List.flatMap_append, follow_append, ih, List.flatMap_singleton]
    simp only [Nat.forall_lt_succ_right]
    by_cases hbits : ∀ i < n, bitLevel r i = bitLevel c.reg[regIndex a] i
    · rw [if_pos hbits, Option.bind_some, follow_bit_answering hmodel hread]
      exact if_congr (and_iff_right hbits).symm rfl rfl
    · rw [if_neg hbits, if_neg fun h => hbits h.1, Option.bind_none]

theorem forall_bitLevel_eq_iff (r x : Byte) : (∀ i < 8, bitLevel r i = bitLevel x i) ↔ r = x := by
  refine ⟨fun h => byteAnswers_injective (List.map_congr_left fun i hi => h i (List.mem_range.mp hi)), ?_⟩
  rintro rfl _ _
  rfl

/-- A read transaction from an address the chip models: a run of the chip if the byte read is the register's, and only then (R187). -/
theorem follow_readRegisterEvents (h8 : p.byteBits = 8) (hidle : c.inTx = false) {a : Byte}
    (hmodel : chipModels a = true) (hread : isReadAddr a = true) (r : Byte) :
    ∃ d : Chip, d.inTx = false ∧ d.reg = c.reg ∧
      c.follow (readRegisterEvents p a r) = if r = c.reg[regIndex a] then some d else none := by
  obtain ⟨l, haddress⟩ := follow_address h8 hidle a
  have hturn : (c.takingAddress l a 8).event (.mode .dat .input) = some (c.answering a l 0) := rfl
  have hcommit : (c.answering a l 8).commit = { c.answering a l 8 with inTx := false } := by
    simp [Chip.commit, Chip.answering, Chip.takingAddress, hread]
  refine ⟨{ c.answering a l 8 with inTx := false }, rfl, rfl, ?_⟩
  rw [readRegisterEvents, follow_append, follow_append, haddress, Option.bind_some, readByteEvents,
    follow_cons_of_some hturn, h8, follow_bits_answering hmodel hread]
  simp only [forall_bitLevel_eq_iff]
  split_ifs
  · rw [Option.bind_some, follow_ce_low rfl, hcommit]
  · rfl

/-- Settles O56: the one read transaction of `RTC.RDREG`. -/
theorem chipReadReturnsTheRegister : Obligations.ChipReadReturnsTheRegister := by
  intro c a s hidle hmodel hread
  obtain ⟨t, hexec, htrace, -, hheard, -⟩ := rdregStoresTheByteItSampled.2 a s
  obtain ⟨d, hdidle, hdreg, hfollow⟩ :=
    follow_readRegisterEvents params_byteBits hidle hmodel hread t.regs.rdata
  refine ⟨fun rest h => ?listed, fun t' es c1 hexec' htrace' hfollow' => ?followed⟩
  case listed =>
    obtain ⟨hrdata, -⟩ := hheard _ _ h
    exact ⟨t, _, d, hexec, htrace, hfollow.trans (if_pos hrdata), hdreg, hdidle, hrdata⟩
  case followed =>
    obtain rfl := Host.Outcome.next.inj (hexec.symm.trans hexec')
    rw [← List.append_cancel_left (htrace.symm.trans htrace'), hfollow] at hfollow'
    obtain ⟨hrdata, hd⟩ := Option.ite_none_right_eq_some.mp hfollow'
    exact ⟨hrdata, by rw [← Option.some.inj hd, hdreg]⟩

/-- Settles O57: the one write transaction of `RTC.WRREG`. -/
theorem chipWriteObeysWriteProtection : Obligations.ChipWriteObeysWriteProtection := by
  intro c a v s hidle hmodel hwrite
  obtain ⟨t, hexec, htrace, -⟩ := wrregSendsOneWriteTransaction.2 a v s
  obtain ⟨d, hfollow, hdidle, hdreg⟩ := follow_writeRegisterEvents params_byteBits hidle hmodel hwrite v
  exact ⟨t, _, d, hexec, htrace, hfollow, hdidle, hdreg⟩

/-! ### `RTC.INIT` (R188 (1), (2)) -/

/-- Write transactions to addresses the chip models, one after the other. -/
theorem follow_writes (h8 : p.byteBits = 8) {ws : List (Byte × Byte)}
    (hws : ∀ w ∈ ws, chipModels w.1 = true ∧ isReadAddr w.1 = false) (hidle : c.inTx = false) :
    ∃ d, c.follow (ws.flatMap fun w => writeRegisterEvents p w.1 w.2) = some d ∧ d.inTx = false ∧
      d.reg = ws.foldl (fun reg w => chipAfterWrite reg w.1 w.2) c.reg := by
  induction ws generalizing c with
  | nil => exact ⟨c, rfl, hidle, rfl⟩
  | cons w ws ih =>
    obtain ⟨hmodel, hwrite⟩ := hws w List.mem_cons_self
    obtain ⟨d, hd, hdidle, hdreg⟩ := follow_writeRegisterEvents h8 hidle hmodel hwrite w.2
    obtain ⟨e, he, heidle, hereg⟩ := ih (fun w hw => hws w (List.mem_cons_of_mem _ hw)) hdidle
    exact ⟨e, by rw [List.flatMap_cons, follow_append_of_some hd, he], heidle, by rw [hereg, hdreg]; rfl⟩

/-- The seven seeds and their addresses. -/
def seedPairs (p : Params) : List (Byte × Byte) :=
  [(0x80, p.seed0), (0x82, p.seed1), (0x84, p.seed2), (0x86, p.seed3), (0x88, p.seed4), (0x8A, p.seed5), (0x8C, p.seed6)]

theorem initPairs_eq (p : Params) : initPairs p =
    (0x8E, p.wpUnlock) :: (if p.seedEnable then seedPairs p else []) ++ [(0x8E, p.wpLock)] := by
  rw [initPairs]
  split <;> rfl

theorem seedPairs_addresses (p : Params) : ∀ w ∈ if p.seedEnable then seedPairs p else [],
    chipModels w.1 = true ∧ isReadAddr w.1 = false ∧ regIndex w.1 ≠ 7 := by
  split
  · have haddresses : ∀ a ∈ [0x80, 0x82, 0x84, 0x86, 0x88, 0x8A, 0x8C],
        chipModels a = true ∧ isReadAddr a = false ∧ regIndex a ≠ 7 := by decide
    exact fun w hw => haddresses w.1 (List.mem_map_of_mem (f := Prod.fst) hw)
  · simp

theorem initPairs_addresses (p : Params) : ∀ w ∈ initPairs p, chipModels w.1 = true ∧ isReadAddr w.1 = false := by
  have hseeds : ∀ w ∈ if p.seedEnable then seedPairs p else [], chipModels w.1 = true ∧ isReadAddr w.1 = false :=
    fun w hw =>
      have ⟨hmodel, hwrite, _⟩ := seedPairs_addresses p w hw
      ⟨hmodel, hwrite⟩
  have hcontrol : chipModels 0x8E = true ∧ isReadAddr 0x8E = false := by decide
  rw [initPairs_eq]
  exact List.forall_mem_append.mpr ⟨List.forall_mem_cons.mpr ⟨hcontrol, hseeds⟩, List.forall_mem_singleton.mpr hcontrol⟩

theorem chipAfterWrite_of_unlocked {reg : Vector Byte 8} (h : reg[7].getLsbD 7 = false) (a v : Byte) :
    chipAfterWrite reg a v = reg.set (regIndex a) v := by
  rw [chipAfterWrite]
  split_ifs with hcontrol hlocked
  · simp [hcontrol]
  · exact absurd (h.symm.trans hlocked) (by decide)
  · rfl

/-- The registers after these values are written to these addresses. -/
def setAll (reg : Vector Byte 8) (ws : List (Byte × Byte)) : Vector Byte 8 :=
  ws.foldl (fun reg w => reg.set (regIndex w.1) w.2) reg

/-- An unlocked chip takes every write, and stays unlocked while its control register is not written. -/
theorem foldl_chipAfterWrite_of_unlocked {ws : List (Byte × Byte)} (hws : ∀ w ∈ ws, regIndex w.1 ≠ 7)
    {reg : Vector Byte 8} (h : reg[7].getLsbD 7 = false) :
    ws.foldl (fun reg w => chipAfterWrite reg w.1 w.2) reg = setAll reg ws := by
  induction ws generalizing reg with
  | nil => rfl
  | cons w ws ih =>
    have hne : (regIndex w.1).val ≠ 7 := fun h7 => hws w List.mem_cons_self (Fin.ext h7)
    have hnext : (reg.set (regIndex w.1) w.2)[7].getLsbD 7 = false := by rwa [Vector.getElem_set_ne _ _ hne]
    rw [List.foldl_cons, chipAfterWrite_of_unlocked h, ih (fun w hw => hws w (List.mem_cons_of_mem _ hw)) hnext]
    rfl

theorem setAll_seedPairs (p : Params) (reg : Vector Byte 8) : setAll reg (seedPairs p) =
    ((((((reg.set 0 p.seed0).set 1 p.seed1).set 2 p.seed2).set 3 p.seed3).set 4 p.seed4).set 5 p.seed5).set 6
      p.seed6 := by
  have hindex : [0x80, 0x82, 0x84, 0x86, 0x88, 0x8A, 0x8C].map regIndex = [0, 1, 2, 3, 4, 5, 6] := rfl
  simp only [List.map_cons, List.map_nil, List.cons.injEq, and_true] at hindex
  obtain ⟨h0, h1, h2, h3, h4, h5, h6⟩ := hindex
  simp only [setAll, seedPairs, List.foldl_cons, List.foldl_nil, h0, h1, h2, h3, h4, h5, h6]
  rfl

theorem foldl_initPairs (hunlock : p.wpUnlock.getLsbD 7 = false) (reg : Vector Byte 8) :
    (initPairs p).foldl (fun reg w => chipAfterWrite reg w.1 w.2) reg =
      if p.seedEnable then #v[p.seed0, p.seed1, p.seed2, p.seed3, p.seed4, p.seed5, p.seed6, p.wpLock]
      else reg.set 7 p.wpLock := by
  have hcontrol : ∀ (reg : Vector Byte 8) (v : Byte), chipAfterWrite reg 0x8E v = reg.set 7 v := fun _ _ => if_pos rfl
  have hseeds : ∀ w ∈ (if p.seedEnable then seedPairs p else []), regIndex w.1 ≠ 7 :=
    fun w hw =>
      have ⟨_, _, hne⟩ := seedPairs_addresses p w hw
      hne
  have hunlocked : (reg.set 7 p.wpUnlock)[7].getLsbD 7 = false := by rwa [Vector.getElem_set_self]
  simp only [initPairs_eq, List.foldl_append, List.foldl_cons, List.foldl_nil, hcontrol,
    foldl_chipAfterWrite_of_unlocked hseeds hunlocked]
  split
  · rw [setAll_seedPairs]
    refine Vector.ext fun i hi => ?_
    interval_cases i <;> simp
  · simp [setAll]

/-- Settles O58: the writes of `RTC.INIT`, the chip unlocked by the first of them. -/
theorem chipIsSeededAndLockedByInit : Obligations.ChipIsSeededAndLockedByInit := by
  intro c s hidle
  obtain ⟨t, hexec, htrace, -⟩ := initWritesUnlockSeedsLock.2 s
  obtain ⟨d, hfollow, hdidle, hdreg⟩ := follow_writes params_byteBits (initPairs_addresses Config.params) hidle
  exact ⟨t, _, d, hexec, htrace, hfollow, hdidle, hdreg.trans (foldl_initPairs rfl c.reg)⟩

/-! ### `RTC.GETTIME` (R188 (4)) -/

/-- A read transaction that reads what the register holds. -/
theorem follow_read_register (h8 : p.byteBits = 8) {a r : Byte} (hmodel : chipModels a = true)
    (hread : isReadAddr a = true) {reg : Vector Byte 8} (hr : reg[regIndex a] = r) {c : Chip} (hidle : c.inTx = false)
    (hreg : c.reg = reg) :
    ∃ d : Chip, d.inTx = false ∧ d.reg = reg ∧ c.follow (readRegisterEvents p a r) = some d := by
  subst hreg
  obtain ⟨d, hdidle, hdreg, hfollow⟩ := follow_readRegisterEvents h8 hidle hmodel hread r
  exact ⟨d, hdidle, hdreg, hfollow.trans (if_pos hr.symm)⟩

/-- Settles O60: six read transactions, the registers as they were after each. -/
theorem gettimeReadsTheChip : Obligations.GettimeReadsTheChip := by
  intro c s rest hidle h
  obtain ⟨t, r0, r1, r2, r3, r4, r5, hexec, htrace, hregs, hheard, -⟩ := gettimeReadsAndDecodesSixFields.2 s
  obtain ⟨hbytes, hrest⟩ := hheard _ _ _ _ _ _ rest h
  obtain ⟨rfl, rfl, rfl, rfl, rfl, rfl⟩ : r0 = c.reg[0] ∧ r1 = c.reg[1] ∧ r2 = c.reg[2] ∧ r3 = c.reg[3] ∧
      r4 = c.reg[4] ∧ r5 = c.reg[6] := by simpa using hbytes
  have h8 := params_byteBits
  obtain ⟨d0, hidle0, hreg0, h0⟩ := follow_read_register h8 (a := 0x81) (r := c.reg[0]) rfl rfl (reg := c.reg) rfl hidle rfl
  obtain ⟨d1, hidle1, hreg1, h1⟩ := follow_read_register h8 (a := 0x83) (r := c.reg[1]) rfl rfl rfl hidle0 hreg0
  obtain ⟨d2, hidle2, hreg2, h2⟩ := follow_read_register h8 (a := 0x85) (r := c.reg[2]) rfl rfl rfl hidle1 hreg1
  obtain ⟨d3, hidle3, hreg3, h3⟩ := follow_read_register h8 (a := 0x87) (r := c.reg[3]) rfl rfl rfl hidle2 hreg2
  obtain ⟨d4, hidle4, hreg4, h4⟩ := follow_read_register h8 (a := 0x89) (r := c.reg[4]) rfl rfl rfl hidle3 hreg3
  obtain ⟨d5, hidle5, hreg5, h5⟩ := follow_read_register h8 (a := 0x8D) (r := c.reg[6]) rfl rfl rfl hidle4 hreg4
  simp only [List.append_assoc] at htrace
  refine ⟨t, _, d5, hexec, htrace, ?_, hreg5, hidle5, hrest, ?_⟩
  · rw [follow_append_of_some h0, follow_append_of_some h1, follow_append_of_some h2, follow_append_of_some h3,
      follow_append_of_some h4, h5]
  · simp only [timeReg_eq_time, hregs]
    exact ⟨rfl, rfl, rfl, rfl, rfl, rfl⟩

end Sys2Proof.Machine
end
